-- ==== Sys2Proof/Word.lean ====
section
/-! DEFINITION. Word types of the LED render block: the widths of 00_scope.md R11, colours (R16) and the
three formats a code comes in (30_encoding.md R80). -/

namespace Sys2Proof

/-- One colour channel, `u8`. -/
abbrev Byte := BitVec 8

/-- One 32-bit register, `u32`. -/
abbrev U32 := BitVec 32

/-- One 64-bit word: a command (R81), a response (R87), a `u64` or an `s64`. -/
abbrev U64 := BitVec 64

/-- An `s16` read as a Q15 fraction (R15). -/
abbrev Q15 := BitVec 16

/-- A colour `(r, g, b)` (R16). -/
structure Color where
  r : Byte
  g : Byte
  b : Byte
  deriving DecidableEq, Repr

/-- `BLACK = (0, 0, 0)` (R16). -/
def Color.black : Color := ⟨0#8, 0#8, 0#8⟩

/-- What the block decodes (R80): a command word, an edge pair whose bit 1 is `BTN_PREV` and bit 0
`BTN_SYNC` (R88), or the value of `CUR_MODE` at a boundary (R89). -/
inductive Code where
  | cmd (w : U64)
  | edge (e : BitVec 2)
  | dispatch (m : U32)
  deriving DecidableEq, Repr

end Sys2Proof
end

