-- ==== Sys2Proof/Config.lean ====
section
/-! DEFINITION. The configuration record `cfg` of 00_scope.md R9, and the reference tables of 95_test_vectors.md
section 2.1. No step changes a configuration. The check of R240 is in Machine/ConfigCheck.lean. -/

namespace Sys2Proof

/-- A colour channel, as `WIRE_ORDER` names it (R117). -/
inductive Channel where
  | r
  | g
  | b
  deriving DecidableEq, Repr

/-- `WIRE_ORDER = (X, Y, Z)` (R117). R240 checks that it is a permutation. -/
structure WireOrder where
  first : Channel
  second : Channel
  third : Channel
  deriving DecidableEq, Repr

/-- `REDUCE` (R158, R159). -/
inductive Reduce where
  | peak
  | sum
  deriving DecidableEq, Repr

/-- `SPEC_MASK = (mr, mg, mb)` (R164). R240 checks that each is 0 or 1. -/
structure SpecMask where
  mr : Nat
  mg : Nat
  mb : Nat
  deriving DecidableEq, Repr

/-- DESIGN CHOICE (log entry 6). The level the model runs at: at `operation` an UPDATE or CLEAR is one step
(R7, R102); at `timing` the serializer runs cycle by cycle (R115 to R123). -/
inductive Level where
  | operation
  | timing
  deriving DecidableEq, Repr

/-- DESIGN CHOICE (log entry 4). What the port does with a command word the model's check refuses (R85, R86): `refuse` is
R210's model, which ends in Refused(cmd); `hardware` is R210's hardware column, which goes on. -/
inductive CommandCheck where
  | refuse
  | hardware
  deriving DecidableEq, Repr

/-- The configuration record (R9). `level` and `check` are the model's own. -/
structure Config where
  /-- `N`, the number of LED cells. -/
  n : Nat
  /-- `NUM_MODES`. -/
  numModes : Nat
  /-- `L`, the sample buffer and transform length. -/
  l : Nat
  /-- `WINDOW[0..L-1]`. -/
  window : List Q15
  /-- `TWC[0..L-1]` (R152). -/
  twc : List Q15
  /-- `TWS[0..L-1]` (R152). -/
  tws : List Q15
  /-- `EDGES[0..N]`. -/
  edges : List Int
  /-- `REDUCE`. -/
  reduce : Reduce
  /-- `NORM_DEN`. -/
  normDen : Nat
  /-- `SPEC_MASK`. -/
  specMask : SpecMask
  /-- `WIRE_ORDER`. -/
  wireOrder : WireOrder
  /-- `T0H`, in CLK cycles. -/
  t0h : Nat
  /-- `T0L`, in CLK cycles. -/
  t0l : Nat
  /-- `T1H`, in CLK cycles. -/
  t1h : Nat
  /-- `T1L`, in CLK cycles. -/
  t1l : Nat
  /-- `TRESET`, in CLK cycles. -/
  tReset : Nat
  /-- `F_CLK`. DESIGN CHOICE (log entry 28): a natural number without a unit. -/
  fClk : Nat
  /-- `T_SAMPLE`, a parameter of the environment. DESIGN CHOICE (log entry 28): a natural number without a unit. -/
  tSample : Nat
  /-- The level the model runs at (the model's own, log entry 6). -/
  level : Level
  /-- What the port does with a word the model's check refuses (the model's own, log entry 4). -/
  check : CommandCheck
  deriving DecidableEq, Repr

/-- `SPECTRAL_MODE = 1` (R9, R181). -/
abbrev spectralMode : U32 := 1#32

/-- A table of Q15 constants from its integers. -/
def q15Table (xs : List Int) : List Q15 := xs.map (BitVec.ofInt 16)

/-- `GRB` (R117). -/
def WireOrder.grb : WireOrder := ⟨.g, .r, .b⟩

/-- `RGB` (R117). -/
def WireOrder.rgb : WireOrder := ⟨.r, .g, .b⟩

/-- The twiddle table `TWC` for `L = 8` (95_test_vectors.md, section 2.1). -/
def twc8 : List Q15 := q15Table [32767, 23170, 0, -23170, -32767, -23170, 0, 23170]

/-- The twiddle table `TWS` for `L = 8` (95_test_vectors.md, section 2.1). -/
def tws8 : List Q15 := q15Table [0, 23170, 32767, 23170, 0, -23170, -32767, -23170]

/-- The twiddle table `TWC` for `L = 2` (95_test_vectors.md, section 2.1). -/
def twc2 : List Q15 := q15Table [32767, -32767]

/-- The twiddle table `TWS` for `L = 2` (95_test_vectors.md, section 2.1). -/
def tws2 : List Q15 := q15Table [0, 0]

/-- The twiddle table `TWC` for `L = 4` (95_test_vectors.md, section 2.1). -/
def twc4 : List Q15 := q15Table [32767, 0, -32767, 0]

/-- The twiddle table `TWS` for `L = 4` (95_test_vectors.md, section 2.1). -/
def tws4 : List Q15 := q15Table [0, 32767, 0, -32767]

/-- The twiddle table `TWC` for `L = 32` (95_test_vectors.md, section 2.1). -/
def twc32 : List Q15 :=
  q15Table [32767, 32137, 30273, 27245, 23170, 18204, 12539, 6393, 0, -6393, -12539, -18204] ++
  q15Table [-23170, -27245, -30273, -32137, -32767, -32137, -30273, -27245, -23170, -18204, -12539, -6393] ++
  q15Table [0, 6393, 12539, 18204, 23170, 27245, 30273, 32137]

/-- The twiddle table `TWS` for `L = 32` (95_test_vectors.md, section 2.1). -/
def tws32 : List Q15 :=
  q15Table [0, 6393, 12539, 18204, 23170, 27245, 30273, 32137, 32767, 32137, 30273, 27245] ++
  q15Table [23170, 18204, 12539, 6393, 0, -6393, -12539, -18204, -23170, -27245, -30273, -32137] ++
  q15Table [-32767, -32137, -30273, -27245, -23170, -18204, -12539, -6393]

/-- The window of CFG-R (95_test_vectors.md, section 2.1). -/
def window32 : List Q15 :=
  q15Table [0, 315, 1247, 2761, 4799, 7281, 10114, 13187, 16384, 19580, 22653, 25486] ++
  q15Table [27968, 30006, 31520, 32452, 32767, 32452, 31520, 30006, 27968, 25486, 22653, 19580] ++
  q15Table [16384, 13187, 10114, 7281, 4799, 2761, 1247, 315]

/-- CFG-R (95_test_vectors.md, section 2.1). DESIGN CHOICE (log entries 2, 3 and 4): the timing values are those of
vector V-L8; `fClk` and `tSample` are the model's own; the check is that of the spec's own model. No rule of the operation level
depends on the timing values. -/
def Config.reference : Config where
  n := 12
  numModes := 4
  l := 32
  window := window32
  twc := twc32
  tws := tws32
  edges := [0, 1, 2, 3, 4, 5, 6, 7, 8, 9, 10, 12, 16]
  reduce := .peak
  normDen := 131072
  specMask := ⟨1, 1, 1⟩
  wireOrder := .grb
  t0h := 16
  t0l := 34
  t1h := 32
  t1l := 18
  tReset := 2000
  fClk := 40000000
  tSample := 1
  level := .operation
  check := .refuse

/-- CFG-T (95_test_vectors.md, section 2.1), with the timing values of `Config.reference`. -/
def Config.small : Config :=
  { Config.reference with
    n := 4
    l := 8
    window := q15Table [32767, 32767, 32767, 32767, 32767, 32767, 32767, 32767]
    twc := twc8
    tws := tws8
    edges := [0, 1, 2, 3, 4]
    normDen := 65536 }

end Sys2Proof
end

