-- ==== Sys2Proof/Syntax.lean ====
section
/-! DEFINITION. The instructions of the LED render block, one constructor per row of spec/opcode_table.json, with
every bit of the row's encoding that can vary as an operand; and the assembler lines of R90 and R91. -/

namespace Sys2Proof

/-- The rows of the opcode table (30_encoding.md R84, R88, R89). An operand `sbz` holds a should-be-zero
field, which the hardware ignores (R86). -/
inductive Instr where
  /-- SETCOLOR (R101): write one Frame cell. -/
  | setcolor (idx : U32) (r g b : Byte)
  /-- UPDATE (R102): send the Frame to the link. -/
  | update (sbz : BitVec 56)
  /-- CLEAR (R103): black out the Frame and send it. -/
  | clear (sbz : BitVec 56)
  /-- READCOLOR (R104): read one Frame cell back. -/
  | readcolor (idx : U32) (sbz : BitVec 24)
  /-- READREG (R105): read a read-only register. -/
  | readreg (id : U32) (sbz : BitVec 24)
  /-- RESERVED (R106): every word whose OP is not 0x01 to 0x05. -/
  | reserved (op : Byte) (payload : BitVec 56)
  /-- EDGE_FALL (R183): the falling edge. -/
  | edgeFall
  /-- DISPATCH_MOTION_TILT (R190), `CUR_MODE = 0`. -/
  | dispatchMotionTilt
  /-- DISPATCH_SPECTRAL (R189), `CUR_MODE = 1`. -/
  | dispatchSpectral
  /-- DISPATCH_TELEMETRY (R190), `CUR_MODE = 2`. -/
  | dispatchTelemetry
  /-- DISPATCH_PLACEHOLDER (R190), `CUR_MODE = 3`. -/
  | dispatchPlaceholder
  /-- DISPATCH_EXT (R190), `CUR_MODE = m` with `4 <= m < NUM_MODES`. -/
  | dispatchExt (m : U32)
  /-- DISPATCH_UNREACHABLE (R198), `CUR_MODE = m` with `m >= NUM_MODES`. -/
  | dispatchUnreachable (m : U32)
  deriving DecidableEq, Repr

/-- One line of the assembler, its operands as the numbers written (R90, R91). -/
inductive AsmLine where
  | setcolor (idx : Int) (r g b : Nat)
  | update
  | clear
  | readcolor (idx : Int)
  | readreg (id : Nat)
  /-- Pseudo-instruction `setrgb24 idx, 0xRRGGBB` (R91). -/
  | setrgb24 (idx : Int) (rgb : Nat)
  /-- Pseudo-instruction `black idx` (R91). -/
  | black (idx : Int)
  deriving DecidableEq, Repr

end Sys2Proof
end

