-- ==== Sys2Proof/WellFormed.lean ====
section
/-! DEFINITION. When an instruction is well formed: its operands are in the range its row has, and it is not one
the spec's model check refuses (30_encoding.md R85, R86; 60_exceptions.md R210 code 2). -/

namespace Sys2Proof

/-- `OP` is one of the five defined opcodes (R84). -/
def opDefined (op : Byte) : Bool :=
  op == 1#8 || op == 2#8 || op == 3#8 || op == 4#8 || op == 5#8

/-- The operands stand in the range of the instruction's own row, for `numModes` modes (R84, R89). This is
what an encoding can carry; should-be-zero fields are free here. -/
def Instr.operandsOk (numModes : Nat) : Instr → Bool
  | .setcolor _ _ _ _ => true
  | .update _ => true
  | .clear _ => true
  | .readcolor _ _ => true
  | .readreg _ _ => true
  | .reserved op _ => !opDefined op
  | .edgeFall => true
  | .dispatchMotionTilt => decide (0 < numModes)
  | .dispatchSpectral => decide (1 < numModes)
  | .dispatchTelemetry => decide (2 < numModes)
  | .dispatchPlaceholder => decide (3 < numModes)
  | .dispatchExt m => decide (4 ≤ m.toNat) && decide (m.toNat < numModes)
  | .dispatchUnreachable m => decide (numModes ≤ m.toNat)

/-- Every should-be-zero field is zero (R86). -/
def Instr.sbzZero : Instr → Bool
  | .setcolor _ _ _ _ => true
  | .update sbz => sbz == 0#56
  | .clear sbz => sbz == 0#56
  | .readcolor _ sbz => sbz == 0#24
  | .readreg _ sbz => sbz == 0#24
  | .reserved _ _ => true
  | .edgeFall => true
  | .dispatchMotionTilt => true
  | .dispatchSpectral => true
  | .dispatchTelemetry => true
  | .dispatchPlaceholder => true
  | .dispatchExt _ => true
  | .dispatchUnreachable _ => true

/-- A reserved opcode (R85). -/
def Instr.isReserved : Instr → Bool
  | .reserved _ _ => true
  | .setcolor _ _ _ _ => false
  | .update _ => false
  | .clear _ => false
  | .readcolor _ _ => false
  | .readreg _ _ => false
  | .edgeFall => false
  | .dispatchMotionTilt => false
  | .dispatchSpectral => false
  | .dispatchTelemetry => false
  | .dispatchPlaceholder => false
  | .dispatchExt _ => false
  | .dispatchUnreachable _ => false

/-- The spec's model check refuses the instruction: a reserved opcode (R85) or a should-be-zero field that is
not zero (R86; R210 code 2). -/
def Instr.refusedByModel (i : Instr) : Bool := i.isReserved || !i.sbzZero

/-- Well formed: operands in range, and not refused by the model check. -/
def Instr.wellFormed (numModes : Nat) (i : Instr) : Bool :=
  i.operandsOk numModes && !i.refusedByModel

end Sys2Proof
end

