-- ==== Sys2Proof/Decode.lean ====
section
/-! DEFINITION. Decoding of the three formats (30_encoding.md R80 to R93), total on every code, and the encoder written
from the same tables; the assembler of R90 and R91. -/

namespace Sys2Proof

/-! ### Fields of a command word (R81) -/

/-- `OP`, bits 63:56. -/
def cmdOp (w : U64) : Byte := w.extractLsb' 56 8

/-- `INDEX`, bits 55:24. -/
def cmdIndex (w : U64) : U32 := w.extractLsb' 24 32

/-- `R`, bits 23:16. -/
def cmdR (w : U64) : Byte := w.extractLsb' 16 8

/-- `G`, bits 15:8. -/
def cmdG (w : U64) : Byte := w.extractLsb' 8 8

/-- `B`, bits 7:0. -/
def cmdB (w : U64) : Byte := w.extractLsb' 0 8

/-- Bits 55:0, should-be-zero in UPDATE and CLEAR (R86). -/
def cmdLow56 (w : U64) : BitVec 56 := w.extractLsb' 0 56

/-- Bits 23:0, should-be-zero in READCOLOR and READREG (R86). -/
def cmdLow24 (w : U64) : BitVec 24 := w.extractLsb' 0 24

/-! ### Decoding -/

/-- The opcode map (R84). The hardware selects by `OP` alone; every word is one of the five commands or
reserved (R85, R93). -/
def decodeCmd (w : U64) : Instr :=
  if cmdOp w = 1#8 then .setcolor (cmdIndex w) (cmdR w) (cmdG w) (cmdB w)
  else if cmdOp w = 2#8 then .update (cmdLow56 w)
  else if cmdOp w = 3#8 then .clear (cmdLow56 w)
  else if cmdOp w = 4#8 then .readcolor (cmdIndex w) (cmdLow24 w)
  else if cmdOp w = 5#8 then .readreg (cmdIndex w) (cmdLow24 w)
  else .reserved (cmdOp w) (cmdLow56 w)

/-- The edge table (R88): only `0b10` acts. -/
def decodeEdge (e : BitVec 2) : Option Instr :=
  if e = 2#2 then some .edgeFall else none

/-- The dispatch table (R89) for `numModes` modes. -/
def decodeDispatch (numModes : Nat) (m : U32) : Instr :=
  if numModes ≤ m.toNat then .dispatchUnreachable m
  else if m = 0#32 then .dispatchMotionTilt
  else if m = spectralMode then .dispatchSpectral
  else if m = 2#32 then .dispatchTelemetry
  else if m = 3#32 then .dispatchPlaceholder
  else .dispatchExt m

/-- Why a code stands for no instruction. -/
inductive Reject where
  /-- An edge pair other than `0b10`: ARB takes a step that changes only its two flip-flops (R184). -/
  | noEdge (e : BitVec 2)
  deriving DecidableEq, Repr

/-- The decoder, total on every code (R93). -/
def decode (numModes : Nat) : Code → Except Reject Instr
  | .cmd w => .ok (decodeCmd w)
  | .edge e =>
    match decodeEdge e with
    | some i => .ok i
    | none => .error (.noEdge e)
  | .dispatch m => .ok (decodeDispatch numModes m)

/-- The code that `nbits` bits of the opcode table's numbering stand for: the table's formats are 2 bits
(EDGE2, one whole byte), 32 bits (DISPATCH32) and 64 bits (CMD64) (R80). -/
def tableCode (nbits w : Nat) : Option Code :=
  if nbits ≤ 8 then (if w < 4 then some (.edge (BitVec.ofNat 2 w)) else none)
  else if nbits ≤ 32 then some (.dispatch (BitVec.ofNat 32 w))
  else if nbits ≤ 64 then some (.cmd (BitVec.ofNat 64 w))
  else none

/-- The instruction the decoder reads from an opcode-table word, with the reference value of `NUM_MODES`
(DISPATCH32 decodes against the mode count; log entry 20). -/
def decodeTableWord (nbits w : Nat) : Option Instr :=
  match tableCode nbits w with
  | none => none
  | some c =>
    match decode Config.reference.numModes c with
    | .ok i => some i
    | .error _ => none

/-! ### Encoding -/

/-- A command word with an index and 24 low bits: OP 63:56, INDEX 55:24, low 23:0 (R81). -/
def packIndexed (op : Byte) (idx : U32) (low : BitVec 24) : U64 := op ++ idx ++ low

/-- A command word with 56 low bits: OP 63:56, low 55:0 (R81). -/
def packPlain (op : Byte) (low : BitVec 56) : U64 := op ++ low

/-- The code of an instruction (R84, R88, R89, R90). -/
def encode : Instr → Code
  | .setcolor idx r g b => .cmd (packIndexed 1#8 idx (r ++ g ++ b))
  | .update sbz => .cmd (packPlain 2#8 sbz)
  | .clear sbz => .cmd (packPlain 3#8 sbz)
  | .readcolor idx sbz => .cmd (packIndexed 4#8 idx sbz)
  | .readreg id sbz => .cmd (packIndexed 5#8 id sbz)
  | .reserved op payload => .cmd (packPlain op payload)
  | .edgeFall => .edge 2#2
  | .dispatchMotionTilt => .dispatch 0#32
  | .dispatchSpectral => .dispatch spectralMode
  | .dispatchTelemetry => .dispatch 2#32
  | .dispatchPlaceholder => .dispatch 3#32
  | .dispatchExt m => .dispatch m
  | .dispatchUnreachable m => .dispatch m

/-! ### Assembler operands (R90) and pseudo-instructions (R91) -/

/-- A signed index operand, `-2^31 .. 2^31-1` (R82, R90); none is an assembly error. -/
def asmIndex (idx : Int) : Option U32 :=
  if -2147483648 ≤ idx ∧ idx ≤ 2147483647 then some (BitVec.ofInt 32 idx) else none

/-- A register id operand, `0 .. 2^32-1` (R90). -/
def asmId (id : Nat) : Option U32 :=
  if id < 4294967296 then some (BitVec.ofNat 32 id) else none

/-- A channel operand, `0 .. 255` (R90). -/
def asmByte (v : Nat) : Option Byte :=
  if v ≤ 255 then some (BitVec.ofNat 8 v) else none

/-- SETCOLOR from its written operands (R90). -/
def asmSetcolor (idx : Int) (r g b : Nat) : Option Instr :=
  match asmIndex idx, asmByte r, asmByte g, asmByte b with
  | some i, some r', some g', some b' => some (.setcolor i r' g' b')
  | _, _, _, _ => none

/-- The instruction of an assembler line; none is an assembly error (R90). The two pseudo-instructions
expand to one SETCOLOR each (R91). -/
def assemble : AsmLine → Option Instr
  | .setcolor idx r g b => asmSetcolor idx r g b
  | .update => some (.update 0#56)
  | .clear => some (.clear 0#56)
  | .readcolor idx => (asmIndex idx).map (fun i => .readcolor i 0#24)
  | .readreg id => (asmId id).map (fun i => .readreg i 0#24)
  | .setrgb24 idx rgb =>
    if rgb < 16777216 then asmSetcolor idx (rgb / 65536) (rgb / 256 % 256) (rgb % 256) else none
  | .black idx => asmSetcolor idx 0 0 0

end Sys2Proof
end

