-- ==== Sys2Proof/Machine/ConfigCheck.lean ====
section
/-! DEFINITION. The configuration check of 70_reset_and_hazards.md R240, in its two groups. -/

namespace Sys2Proof

/-- `WIRE_ORDER` is a permutation of (R, G, B). -/
def WireOrder.isPermutation (o : WireOrder) : Bool :=
  o.first != o.second && o.first != o.third && o.second != o.third

/-- `N` and `NUM_MODES` are in range (R240, general constraints). -/
def Config.sizesOk (c : Config) : Bool :=
  decide (1 ≤ c.n) && decide (c.n ≤ 2147483647) &&
    decide (4 ≤ c.numModes) && decide (c.numModes ≤ 4294967295)

/-- The timing parameters are in range, the two bit envelopes have one period and differ (R240, R119). -/
def Config.timingOk (c : Config) : Bool :=
  decide (1 ≤ c.t0h) && decide (1 ≤ c.t0l) && decide (1 ≤ c.t1h) && decide (1 ≤ c.t1l) &&
    decide (1 ≤ c.tReset) && decide (0 < c.fClk) && decide (0 < c.tSample) &&
    decide (c.t0h + c.t0l = c.t1h + c.t1l) && decide (c.t0h < c.t1h)

/-- The general constraints of R240. `T_SAMPLE > 0` is DEDUCED from the table of R9 and the cause of outcome 4 of
R210 (log entry 16). -/
def Config.conforming (c : Config) : Bool :=
  c.sizesOk && c.wireOrder.isPermutation && c.timingOk

/-- `L = 2^m` for some `1 <= m <= 16`. -/
def isTransformLength (l : Nat) : Bool :=
  (List.range 16).any fun m => l == 2 ^ (m + 1)

/-- The band edges: `N + 1` of them, non-decreasing, inside `[0, L/2]`. -/
def Config.edgesOk (c : Config) : Bool :=
  c.edges.length == c.n + 1 && decide (0 ≤ c.edges.getD 0 0) &&
    ((List.range c.n).all fun b => decide (c.edges.getD b 0 ≤ c.edges.getD (b + 1) 0)) &&
    decide (c.edges.getD c.n 0 ≤ ((c.l / 2 : Nat) : Int))

/-- Each element of `SPEC_MASK` is 0 or 1. -/
def SpecMask.isBits (m : SpecMask) : Bool :=
  decide (m.mr ≤ 1) && decide (m.mg ≤ 1) && decide (m.mb ≤ 1)

/-- The spectral constraints of R240: `STATUS.SPEC_OK` is 1 exactly when they hold. `REDUCE in {PEAK, SUM}` holds by
the type of `reduce`. -/
def Config.spectralOk (c : Config) : Bool :=
  isTransformLength c.l && c.window.length == c.l && c.twc.length == c.l && c.tws.length == c.l &&
    c.edgesOk && decide (1 ≤ c.normDen) && decide (c.normDen ≤ 281474976710656) && c.specMask.isBits

end Sys2Proof
end

