-- ==== Sys2Proof/Machine/State.lean ====
section
/-! DEFINITION. The state of the LED render block (10_state.md), as plain data, its reset (R51, R241), and the reasons a
step can stop. The fields from `sampleQ` on are the model's own: the ports of 60_exceptions.md R224, the model's
records, and the interleaving of R63. -/

namespace Sys2Proof.Machine

/-- `GRANT` (R37): which unit owns the command port. -/
inductive Grant where
  | none
  | spm
  | ext (m : U32)
  deriving DecidableEq, Repr

/-- `SEQ_PHASE` (R40). -/
inductive SeqPhase where
  | boundary
  | spmAcquire (j : Nat)
  | spmWindow
  | spmDft
  | spmMag
  | spmReduce
  | spmNorm
  | spmEmit (b : Nat)
  | extRun
  | ser (k : Nat)
  deriving DecidableEq, Repr

/-- The sub-phase of the serializer (R42). -/
inductive SerSub where
  | high
  | low
  | gap
  deriving DecidableEq, Repr

/-- What an external worker presents (R191): a command word, or DONE. -/
inductive WorkerMsg where
  | cmd (w : U64)
  | done
  deriving DecidableEq, Repr

/-- One event of the interleaving (R63): a step of ARB with the pin level it samples, a step of SEQ, or what the
environment does at a port (R224). -/
inductive Event where
  /-- One sample of the digital input: a step of ARB (R182). -/
  | pin (level : Bool)
  /-- SEQ takes its step. -/
  | seq
  /-- The sample source delivers a sample (R146). -/
  | sample (v : Q15)
  /-- The external worker of mode `m` presents a message (R191). -/
  | present (m : U32) (msg : WorkerMsg)
  /-- The reset input acts, with the input level at reset release (R241, R44). -/
  | reset (level : Bool)
  deriving DecidableEq, Repr

/-- The spectral working arrays (R45 to R47), by name. -/
inductive SpmArray where
  | sb
  | xw
  | re
  | im
  | mag
  | band
  | inten
  deriving DecidableEq, Repr

/-- Why the machine stops with a fault. Every one is safe: no reachable state raises it, and a run that did would
end there, so nothing could be proved about what follows. -/
inductive Fault where
  /-- Unreachable(v): raised by DISPATCH_UNREACHABLE when a boundary dispatches `CUR_MODE >= NUM_MODES` (R198, R210).
  Safe. -/
  | unreachableMode (m : U32)
  /-- Unreachable(element): raised by a spectral stage that reads an element no stage has written since reset (R48,
  R210). Safe. -/
  | unreachableElement (array : SpmArray) (index : Nat)
  /-- Raised by a spectral stage with `SPEC_OK = 1` and a configuration that breaks a spectral constraint, which R50 excludes.
  Safe (log entry 17). -/
  | unreachableConfig
  deriving DecidableEq, Repr

/-- Why a step is refused. -/
inductive Refusal where
  /-- ConfigRefused(cfg): raised by `step` when the configuration breaks a general constraint (R240, R210). Safe. -/
  | configRefused (cfg : Config)
  /-- Refused(cmd): raised by `takeCommand`, before the command executes, for a word with a reserved opcode or a nonzero
  should-be-zero field while `cfg.check` is `refuse` (R85, R86, R210, R213, R217; log entry 4). Safe. -/
  | refusedCommand (w : U64)
  /-- Raised by an arm of `exec` that has no meaning yet. No arm of this model raises it. Safe. -/
  | notModelled (mnemonic : String)
  deriving DecidableEq, Repr

/-- The state of the block. An array element is `none` when no stage has written it since reset (R48). -/
structure State where
  /-- The configuration record (R9). -/
  cfg : Config
  /-- `FRAME` (R31). -/
  frame : List Color
  /-- `MODE` (R33). -/
  mode : U32
  /-- `CUR_MODE` (R36). -/
  curMode : U32
  /-- `GRANT` (R37). -/
  grant : Grant
  /-- `STATUS.SPEC_OK` (R38). -/
  specOk : Bool
  /-- `STATUS.BUSY` (R38). -/
  busy : Bool
  /-- `SEQ_PHASE` (R40). -/
  seqPhase : SeqPhase
  /-- `SER_BITS` (R42). -/
  serBits : List Bool
  /-- `SER_POS` (R42). -/
  serPos : Nat
  /-- `SER_RET` (R42). -/
  serRet : SeqPhase
  /-- `SER_CNT` (R42). -/
  serCnt : U32
  /-- The serializer's sub-phase (R42). -/
  serSub : SerSub
  /-- `LINK_OUT` (R43). -/
  linkOut : Bool
  /-- `LINK_LOG` (R43). -/
  linkLog : List (List Bool)
  /-- `BTN_SYNC` (R44). -/
  btnSync : Bool
  /-- `BTN_PREV` (R44). -/
  btnPrev : Bool
  /-- `SB` (R45). -/
  sb : List (Option Q15)
  /-- `XW` (R45). -/
  xw : List (Option Q15)
  /-- `RE` (R46), each `s64`. -/
  re : List (Option U64)
  /-- `IM` (R46), each `s64`. -/
  im : List (Option U64)
  /-- `MAG` (R46), each `u64`. -/
  mag : List (Option U64)
  /-- `BAND` (R47), each `u64`. -/
  band : List (Option U64)
  /-- `INT` (R47), each `u8`. -/
  inten : List (Option Byte)
  /-- Sample source port: samples delivered and not yet taken (R146; log entry 11). -/
  sampleQ : List Q15
  /-- Command and external-worker ports: what each worker has presented and the block not yet taken (R100, R191; log
  entry 12). -/
  workerQ : List (U32 × WorkerMsg)
  /-- Every response returned, oldest first, with the holder it answered (R87; log entry 13). -/
  respLog : List (Grant × U64)
  /-- Every START(m) signalled, oldest first (R190; log entry 13). -/
  startLog : List U32
  /-- The response to SPM's last command, until SPM takes it (R166; log entry 13). -/
  spmResp : Option U64
  /-- How often `SER_CNT` has wrapped in the part of the frame it counts: R240 bounds no duration (log entry 7). -/
  serWraps : Nat
  /-- With `cfg.check = hardware`: the words taken that the model's check refuses, kept for the whole run (R210, R213; log
  entry 4). -/
  refusals : List U64
  /-- The next events of the interleaving, as far as they are fixed; when it is empty SEQ steps (R63). DESIGN CHOICE (log
  entry 1): plain data holds a finite list; in an endless run (`EndlessRun`) the stream of events gives each next one. -/
  script : List Event
  deriving DecidableEq, Repr

/-- The answer of a step or of a meaning. -/
abbrev Result := Host.Outcome State Fault Refusal

/-- The state after reset with configuration `cfg` and input level `level` at reset release (R51, R241, R243). The
model's own fields: log entries 1, 4, 7, 8, 11, 12 and 13. DESIGN CHOICE (log entry 29): SER_RET, to which R42 gives no value,
is BOUNDARY. -/
def State.resetWith (cfg : Config) (level : Bool) : State where
  cfg := cfg
  frame := List.replicate cfg.n Color.black
  mode := 0#32
  curMode := 0#32
  grant := .none
  specOk := cfg.spectralOk
  busy := false
  seqPhase := .boundary
  serBits := []
  serPos := 0
  serRet := .boundary
  serCnt := 0#32
  serSub := .gap
  linkOut := false
  linkLog := []
  btnSync := level
  btnPrev := level
  sb := List.replicate cfg.l none
  xw := List.replicate cfg.l none
  re := List.replicate (cfg.l / 2 + 1) none
  im := List.replicate (cfg.l / 2 + 1) none
  mag := List.replicate (cfg.l / 2 + 1) none
  band := List.replicate cfg.n none
  inten := List.replicate cfg.n none
  sampleQ := []
  workerQ := []
  respLog := []
  startLog := []
  spmResp := none
  serWraps := 0
  refusals := []
  script := []

/-- The machine right after reset: the reference configuration CFG-R (log entry 2), the input level high (log
entry 9). -/
def State.reset : State := State.resetWith Config.reference true

end Sys2Proof.Machine
end

