-- ==== Sys2Proof/Machine/Flags.lean ====
section
/-! DEFINITION. The block's only flags (10_state.md R49): the `STATUS` word (R38), and the `OK` and `VALID` bits of a response
(30_encoding.md R87); and the register map read by READREG (10_state.md R53). -/

namespace Sys2Proof.Machine

/-- `STATUS` (R38): `BUSY` in bit 1, `SPEC_OK` in bit 0, bits 31:2 read 0. -/
def statusWord (s : State) : U32 := 0#30 ++ BitVec.ofBool s.busy ++ BitVec.ofBool s.specOk

/-- The register map (R53, R105); `none` for an id with no register. -/
def readReg (s : State) (id : U32) : Option U32 :=
  if id = 0#32 then some s.mode
  else if id = 1#32 then some s.curMode
  else if id = 2#32 then some (statusWord s)
  else if id = 3#32 then some (BitVec.ofNat 32 s.cfg.n)
  else if id = 4#32 then some (BitVec.ofNat 32 s.cfg.l)
  else if id = 5#32 then some (BitVec.ofNat 32 s.cfg.numModes)
  else none

/-- A response word (R87): `OK` 63, `VALID` 62, zero 61:32, `DATA` 31:0. -/
def respWord (ok valid : Bool) (data : U32) : U64 :=
  BitVec.ofBool ok ++ BitVec.ofBool valid ++ 0#30 ++ data

/-- `ACK` (R87). -/
def ackWord : U64 := respWord true false 0#32

/-- `MISS` (R87), equal to `ACK`. -/
def missWord : U64 := respWord true false 0#32

/-- `NAK` (R87). -/
def nakWord : U64 := respWord false false 0#32

/-- The response to a read (R104, R105): the value with `VALID = 1`, or `MISS`. -/
def readResp : Option U32 → U64
  | some v => respWord true true v
  | none => missWord

/-- `zext_32(RGB24(c))` (R16, R87). -/
def colorData (c : Color) : U32 := 0#8 ++ c.r ++ c.g ++ c.b

end Sys2Proof.Machine
end

