-- ==== Sys2Proof/Machine/Operands.lean ====
section
/-! DEFINITION. Operand forms: cell indices (30_encoding.md R82), register ids (10_state.md R53), and the reads of
spectral array elements (10_state.md R48). -/

namespace Sys2Proof.Machine

/-- The cell an index names: `idx = sext_32(INDEX)` when `0 <= idx < N` (R82, R101, R104). -/
def cellIndex (s : State) (idx : U32) : Option Nat :=
  if 0 ≤ idx.toInt ∧ idx.toInt < (s.cfg.n : Int) then some idx.toInt.toNat else none

/-- The form of the block's one data store: exactly `N` cells (R31). Two frames with equal cells are equal lists. -/
def frameWf (s : State) : Bool := s.frame.length == s.cfg.n

/-- Read a Frame cell whole (R62, R104). -/
def readCell (s : State) (idx : U32) : Option Color :=
  match cellIndex s idx with
  | some i => s.frame[i]?
  | none => none

/-- Write a Frame cell whole, in one step; an index out of range changes nothing (R62, R101). -/
def writeCell (s : State) (idx : U32) (c : Color) : State :=
  match cellIndex s idx with
  | some i => { s with frame := s.frame.set i c }
  | none => s

/-- The first `n` elements of an array, if a stage has written each of them (R48). -/
def readElems {α : Type} : Nat → List (Option α) → Option (List α)
  | 0, _ => some []
  | n + 1, some x :: xs => (readElems n xs).map (x :: ·)
  | _ + 1, none :: _ => none
  | _ + 1, [] => none

/-- The index of the first element no stage has written. -/
def firstUnwritten {α : Type} : List (Option α) → Nat
  | some _ :: xs => firstUnwritten xs + 1
  | none :: _ => 0
  | [] => 0

/-- Read the first `n` elements of array `a` and go on with them; an element no stage has written is the outcome
Unreachable (R48, R210). -/
def withElems {α : Type} (a : SpmArray) (n : Nat) (xs : List (Option α)) (k : List α → Result) : Result :=
  match readElems n xs with
  | some ys => k ys
  | none => .fault (.unreachableElement a (firstUnwritten xs))

/-- Read one element of array `a` and go on with it (R48). -/
def withElem {α : Type} (a : SpmArray) (i : Nat) (xs : List (Option α)) (k : α → Result) : Result :=
  match xs[i]? with
  | some (some x) => k x
  | _ => .fault (.unreachableElement a i)

end Sys2Proof.Machine
end

