-- ==== Sys2Proof/Machine/Ops.lean ====
section
/-! DEFINITION. The operations the meanings share. The block takes no exception and returns from none (60_exceptions.md R211,
R218, R219): its one asynchronous event is the edge step of Machine/Scheduler.lean, which saves nothing and transfers no
control. -/

namespace Sys2Proof.Machine

/-- Go on with the next state of `o`; a fault or a refusal ends it. -/
def thenNext (o : Result) (f : State → Result) : Result :=
  match o with
  | .next t => f t
  | .fault r => .fault r
  | .refused r => .refused r

/-- Held (R210 code 1, R100, R228): nothing changes and the issuer waits. -/
def held (s : State) : Result := .next s

/-- `Respond(w)` (R13, R87): the word goes to the issuer of the current command, the grant holder. SPM's port register
holds it until SPM takes it. -/
def respond (w : U64) (s : State) : State :=
  { s with
    respLog := s.respLog ++ [(s.grant, w)]
    spmResp := if s.grant = .spm then some w else s.spmResp }

/-- Every cell black, in one step (R103). -/
def blackFrame (s : State) : State :=
  { s with frame := List.replicate s.cfg.n Color.black }

/-- The quantum end (R192): `GRANT <- NONE` and `SEQ_PHASE <- BOUNDARY` in one step. -/
def quantumEnd (s : State) : State :=
  { s with grant := .none, seqPhase := .boundary }

/-- Start an external quantum (R190): grant, START(m), EXT_RUN. -/
def startExternal (m : U32) (s : State) : State :=
  { s with grant := .ext m, startLog := s.startLog ++ [m], seqPhase := .extRun }

/-- The port ends in Refused(cmd) for this word (R210, R213): the model's check refuses it (R85, R86), and the configuration
asks for the spec's own model (log entry 4). -/
def refusesWord (w : U64) (s : State) : Bool :=
  decide (s.cfg.check = .refuse) && (decodeCmd w).refusedByModel

/-- A word taken that the model's check refuses is recorded (R210); that happens only with R210's hardware column (log
entry 4). -/
def noteRefusal (w : U64) (s : State) : State :=
  { s with refusals := if (decodeCmd w).refusedByModel then s.refusals ++ [w] else s.refusals }

/-- The increment of `MODE` modulo `NUM_MODES` (R183). -/
def nextMode (s : State) : U32 := BitVec.ofNat 32 ((s.mode.toNat + 1) % s.cfg.numModes)

end Sys2Proof.Machine
end

