-- ==== Sys2Proof/Machine/Serializer.lean ====
section
/-! DEFINITION. The serializer (41_led_driver.md R115 to R125): the frame's bit list, the start and the completion of a
frame, the frame as one step (operation level, R102), and its cycles (timing level, R119 to R121). -/

namespace Sys2Proof.Machine

/-- One channel of a colour. -/
def channelOf (ch : Channel) (c : Color) : Byte :=
  match ch with
  | .r => c.r
  | .g => c.g
  | .b => c.b

/-- `WIRE24(c)` (R117): the first-named channel in bits 23:16, the second in 15:8, the third in 7:0. -/
def wire24 (o : WireOrder) (c : Color) : BitVec 24 :=
  channelOf o.first c ++ channelOf o.second c ++ channelOf o.third c

/-- `Bits24(w)` (R116): most significant bit first. -/
def bits24 (w : BitVec 24) : List Bool := (List.range 24).map w.getMsbD

/-- `FrameBits(F)` (R116): cell 0 first. -/
def frameBits (o : WireOrder) (f : List Color) : List Bool := f.flatMap fun c => bits24 (wire24 o c)

/-- High time of a bit, `T0H` or `T1H` (R119). -/
def highTime (c : Config) (v : Bool) : Nat := if v then c.t1h else c.t0h

/-- Low time of a bit, `T0L` or `T1L` (R119). -/
def lowTime (c : Config) (v : Bool) : Nat := if v then c.t1l else c.t0l

/-- A frame is accepted (R102): the bits are taken from the Frame as it stands, and the first bit begins. -/
def startFrame (s : State) : State :=
  { s with
    serBits := frameBits s.cfg.wireOrder s.frame
    serPos := 0
    serRet := s.seqPhase
    serCnt := 0#32
    serWraps := 0
    serSub := .high
    linkOut := true
    busy := true
    seqPhase := .ser 0 }

/-- The state when the last bit and the latch gap are over (R115, R120): every bit sent, the link low. -/
def sentFrame (s : State) : State :=
  { s with
    serPos := s.serBits.length
    serCnt := 0#32
    serWraps := 0
    serSub := .gap
    linkOut := false
    seqPhase := .ser s.serBits.length }

/-- Completion as one step (R121, R118): the frame joins `LINK_LOG`, BUSY falls, SEQ resumes at `SER_RET`, and the
command responds ACK. -/
def completeFrame (s : State) : State :=
  respond ackWord
    { s with
      linkLog := s.linkLog ++ [s.serBits], serCnt := 0#32, serWraps := 0, busy := false, seqPhase := s.serRet }

/-- UPDATE's body (R102). At the operation level the frame is one indivisible step; at the timing level the serializer
starts, and its cycles are the steps of SEQ in the phases SER(k). -/
def sendFrame (s : State) : Result :=
  match s.cfg.level with
  | .operation => .next (completeFrame (sentFrame (startFrame s)))
  | .timing => .next (startFrame s)

/-- The cycles spent in the current part of the frame: `SER_CNT` and its wraps (R42; log entry 7). -/
def serElapsed (s : State) : Nat := s.serWraps * 4294967296 + s.serCnt.toNat

/-- `SER_CNT` counts one cycle (R42), modulo 2^32; the wrap is kept (log entry 7). -/
def serTick (s : State) : State :=
  { s with
    serCnt := s.serCnt + 1#32
    serWraps := if s.serCnt = 0xFFFFFFFF#32 then s.serWraps + 1 else s.serWraps }

/-- One cycle of the HIGH part of a bit of value `v` (R119). -/
def highCycle (v : Bool) (s : State) : State :=
  if serElapsed s + 1 < highTime s.cfg v then serTick s
  else { s with serCnt := 0#32, serWraps := 0, serSub := .low, linkOut := false }

/-- The latch gap begins (R120): the link goes low and the count restarts. -/
def startGap (s : State) : State :=
  { s with serCnt := 0#32, serWraps := 0, serSub := .gap, linkOut := false }

/-- One cycle of the LOW part of a bit of value `v`; after it the next bit begins, or the latch gap (R115, R119, R120). -/
def lowCycle (v : Bool) (s : State) : State :=
  if serElapsed s + 1 < lowTime s.cfg v then serTick s
  else if s.serPos + 1 < s.serBits.length then
    { s with
      serCnt := 0#32, serWraps := 0, serSub := .high, linkOut := true
      serPos := s.serPos + 1, seqPhase := .ser (s.serPos + 1) }
  else startGap { s with serPos := s.serPos + 1, seqPhase := .ser (s.serPos + 1) }

/-- One cycle of the latch gap (R120). -/
def gapCycle (s : State) : State :=
  if serElapsed s + 1 < s.cfg.tReset then serTick s else completeFrame s

/-- One cycle of the serializer in a phase SER(k) (R115, R119 to R121). With no bit left to send it is the latch gap that
follows; that `SER_POS` passes the last bit in another sub-phase is a state no run reaches (log entry 17). -/
def serCycle (s : State) : State :=
  match s.serSub, s.serBits[s.serPos]? with
  | .high, some v => highCycle v s
  | .low, some v => lowCycle v s
  | .gap, _ => gapCycle s
  | .high, none => startGap s
  | .low, none => startGap s

end Sys2Proof.Machine
end

