-- ==== Sys2Proof/Machine/Driver.lean ====
section
/-! DEFINITION. The meanings of the driver commands (41_led_driver.md R101 to R106), each of a command that has been
accepted (R100). -/

namespace Sys2Proof.Machine

/-- SETCOLOR (R101). -/
def execSetcolor (idx : U32) (r g b : Byte) (s : State) : Result :=
  .next (respond ackWord (writeCell s idx ⟨r, g, b⟩))

/-- UPDATE (R102). -/
def execUpdate (s : State) : Result := sendFrame s

/-- CLEAR (R103). -/
def execClear (s : State) : Result := sendFrame (blackFrame s)

/-- READCOLOR (R104). -/
def execReadcolor (idx : U32) (s : State) : Result :=
  .next (respond (readResp ((readCell s idx).map colorData)) s)

/-- READREG (R105). -/
def execReadreg (id : U32) (s : State) : Result :=
  .next (respond (readResp (readReg s id)) s)

/-- RESERVED (R85, R106): the hardware answers NAK and changes nothing. -/
def execReserved (s : State) : Result := .next (respond nakWord s)

end Sys2Proof.Machine
end

