-- ==== Sys2Proof/Machine/Scheduler.lean ====
section
/-! DEFINITION. The meanings of the edge row and of the dispatch rows (43_mode_scheduler.md R183, R189, R190, R198). -/

namespace Sys2Proof.Machine

/-- EDGE_FALL (R183): `MODE <- (MODE + 1) mod NUM_MODES`, one read-modify-write. -/
def execEdgeFall (s : State) : Result := .next { s with mode := nextMode s }

/-- DISPATCH_MOTION_TILT (R190). -/
def execDispatchMotionTilt (s : State) : Result := .next (startExternal 0#32 s)

/-- DISPATCH_SPECTRAL (R189): the pass begins, or, with `SPEC_OK = 0`, the quantum ends at once (R141). -/
def execDispatchSpectral (s : State) : Result :=
  if s.specOk then .next { s with grant := .spm, seqPhase := .spmAcquire 0 }
  else .next (quantumEnd { s with grant := .spm })

/-- DISPATCH_TELEMETRY (R190). -/
def execDispatchTelemetry (s : State) : Result := .next (startExternal 2#32 s)

/-- DISPATCH_PLACEHOLDER (R190). -/
def execDispatchPlaceholder (s : State) : Result := .next (startExternal 3#32 s)

/-- DISPATCH_EXT (R190). -/
def execDispatchExt (m : U32) (s : State) : Result := .next (startExternal m s)

/-- DISPATCH_UNREACHABLE (R198): the outcome Unreachable(m). -/
def execDispatchUnreachable (m : U32) (_s : State) : Result := .fault (.unreachableMode m)

end Sys2Proof.Machine
end

