-- ==== Sys2Proof/Machine/Dispatch.lean ====
section
/-! DEFINITION. The meaning of every instruction, one arm each. -/

namespace Sys2Proof.Machine

def exec (i : Instr) (s : State) : Host.Outcome State Fault Refusal :=
  match i with
  | .setcolor idx r g b => Sys2Proof.Machine.execSetcolor idx r g b s
  | .update _ => Sys2Proof.Machine.execUpdate s
  | .clear _ => Sys2Proof.Machine.execClear s
  | .readcolor idx _ => Sys2Proof.Machine.execReadcolor idx s
  | .readreg id _ => Sys2Proof.Machine.execReadreg id s
  | .reserved _ _ => Sys2Proof.Machine.execReserved s
  | .edgeFall => Sys2Proof.Machine.execEdgeFall s
  | .dispatchMotionTilt => Sys2Proof.Machine.execDispatchMotionTilt s
  | .dispatchSpectral => Sys2Proof.Machine.execDispatchSpectral s
  | .dispatchTelemetry => Sys2Proof.Machine.execDispatchTelemetry s
  | .dispatchPlaceholder => Sys2Proof.Machine.execDispatchPlaceholder s
  | .dispatchExt m => Sys2Proof.Machine.execDispatchExt m s
  | .dispatchUnreachable m => Sys2Proof.Machine.execDispatchUnreachable m s

end Sys2Proof.Machine
end

