-- ==== Sys2Proof/Machine/Arith.lean ====
section
/-! DEFINITION. The integer primitives of 00_scope.md R12 that Lean's own library does not name. -/

namespace Sys2Proof

/-- `sat16` (R12). -/
def sat16 (v : Int) : Int := max (-32768) (min 32767 v)

/-- The floor square root of `n` below `r + 2^k`, bit by bit from bit `k - 1` down, `r` being the part found. -/
def isqrtFrom (n : Nat) : Nat → Nat → Nat
  | 0, r => r
  | k + 1, r => isqrtFrom n k (if (r + 2 ^ k) * (r + 2 ^ k) ≤ n then r + 2 ^ k else r)

/-- `isqrt(n)`, the largest `r` with `r * r <= n` (R12). -/
def isqrt (n : Nat) : Nat := isqrtFrom n (n.log2 / 2 + 1) 0

/-- The floor of `p / 2^15` after adding half a unit: round half up (R150). -/
def roundQ30 (p : Int) : Int := (p + 16384) / 32768

end Sys2Proof
end

