-- ==== Sys2Proof/Machine/Spectral.lean ====
section
/-! DEFINITION. The Spectral Mapper's stages (42_spectral_mapper.md R145 to R164): what each computes, as a function of its
operands, and the step of SEQ that runs it. The emit stage, which issues commands, is in Machine/Sequencer.lean. -/

namespace Sys2Proof.Machine

/-! ### What each stage computes -/

/-- The window product of one sample (R150). -/
def windowed (x w : Q15) : Q15 := BitVec.ofInt 16 (sat16 (roundQ30 (x.toInt * w.toInt)))

/-- Stage 2 on a whole buffer (R150). -/
def windowStage (c : Config) (sb : List Q15) : List Q15 := List.zipWith windowed sb c.window

/-- Entry `j` of a table, as an integer. -/
def tableAt (t : List Q15) (j : Nat) : Int := (t.getD j 0#16).toInt

/-- The sum over `n` of `XW[n] * T[(n*k) mod L]`, exact (R153). -/
def correlate (t : List Q15) (l k : Nat) (xw : List Q15) : Int :=
  (xw.zipIdx.map fun p => p.1.toInt * tableAt t (p.2 * k % l)).sum

/-- `RE[k]` (R153). -/
def dftRe (c : Config) (xw : List Q15) (k : Nat) : Int := correlate c.twc c.l k xw

/-- `IM[k]` (R153). -/
def dftIm (c : Config) (xw : List Q15) (k : Nat) : Int := -correlate c.tws c.l k xw

/-- Stage 3, the real parts of the bins `0 .. L/2` (R153). -/
def reStage (c : Config) (xw : List Q15) : List U64 :=
  (List.range (c.l / 2 + 1)).map fun k => BitVec.ofInt 64 (dftRe c xw k)

/-- Stage 3, the imaginary parts of the bins `0 .. L/2` (R153). -/
def imStage (c : Config) (xw : List Q15) : List U64 :=
  (List.range (c.l / 2 + 1)).map fun k => BitVec.ofInt 64 (dftIm c xw k)

/-- The magnitude of one bin (R156). -/
def magnitude (re im : Int) : Nat := isqrt (re * re + im * im).toNat / 32768

/-- Stage 4 (R156). -/
def magStage (re im : List U64) : List U64 :=
  List.zipWith (fun x y => BitVec.ofNat 64 (magnitude x.toInt y.toInt)) re im

/-- Bin `k` lies in band `b`: `EDGES[b] <= k < EDGES[b+1]` (R160). -/
def inBand (c : Config) (b k : Nat) : Bool :=
  decide (c.edges.getD b 0 ≤ (k : Int)) && decide ((k : Int) < c.edges.getD (b + 1) 0)

/-- The magnitudes of band `b`, in bin order (R158, R159). -/
def bandBins (c : Config) (mag : List U64) (b : Nat) : List Nat :=
  (mag.zipIdx.filter fun p => inBand c b p.2).map fun p => p.1.toNat

/-- The reduction of a band's magnitudes: the largest (R158) or the sum (R159), 0 for an empty band. -/
def reduceBand : Reduce → List Nat → Nat
  | .peak, xs => xs.foldl max 0
  | .sum, xs => xs.sum

/-- Stage 5 (R158, R159). -/
def bandStage (c : Config) (mag : List U64) : List U64 :=
  (List.range c.n).map fun b => BitVec.ofNat 64 (reduceBand c.reduce (bandBins c mag b))

/-- The normalised intensity of a band value (R162). -/
def normalised (den v : Nat) : Nat := min 255 (v * 255 / den)

/-- Stage 6, first half (R162). -/
def normStage (c : Config) (band : List U64) : List Byte :=
  band.map fun v => BitVec.ofNat 8 (normalised c.normDen v.toNat)

/-- `SpecColor(b)` from `INT[b]` (R164). -/
def specColor (m : SpecMask) (v : Byte) : Color :=
  ⟨BitVec.ofNat 8 (v.toNat * m.mr), BitVec.ofNat 8 (v.toNat * m.mg), BitVec.ofNat 8 (v.toNat * m.mb)⟩

/-- `INT` of a whole pass, from the samples (R150 to R162). -/
def passIntensities (c : Config) (sb : List Q15) : List Byte :=
  let xw := windowStage c sb
  normStage c (bandStage c (magStage (reStage c xw) (imStage c xw)))

/-- The colours a whole pass writes (R166). -/
def passColors (c : Config) (sb : List Q15) : List Color :=
  (passIntensities c sb).map (specColor c.specMask)

/-! ### The sample source port -/

/-- A sample is delivered (R146). The source delivers while the block acquires; after the `L`-th sample it stops and
discards what is left (R147; log entry 11). -/
def deliverSample (v : Q15) (s : State) : State :=
  match s.seqPhase with
  | .spmAcquire j => if j < s.cfg.l then { s with sampleQ := s.sampleQ ++ [v] } else s
  | _ => s

/-! ### The steps of SEQ -/

/-- Acquire, in phase SPM_ACQUIRE(j) (R145): take one sample, or wait for it (R146); after the loop over `j`, go on to the window.
A `j` past `L`, which no run reaches, is past the loop too (log entry 17). -/
def acquireStep (j : Nat) (s : State) : Result :=
  if j < s.cfg.l then
    match s.sampleQ with
    | [] => held s
    | v :: rest =>
      .next
        { s with
          sb := s.sb.set j (some v)
          sampleQ := if j + 1 < s.cfg.l then rest else []
          seqPhase := .spmAcquire (j + 1) }
  else .next { s with seqPhase := .spmWindow }

/-- Window (R150). -/
def windowStep (s : State) : Result :=
  withElems .sb s.cfg.l s.sb fun sb =>
    .next { s with xw := (windowStage s.cfg sb).map some, seqPhase := .spmDft }

/-- The transform (R153). -/
def dftStep (s : State) : Result :=
  withElems .xw s.cfg.l s.xw fun xw =>
    .next
      { s with
        re := (reStage s.cfg xw).map some
        im := (imStage s.cfg xw).map some
        seqPhase := .spmMag }

/-- Magnitude (R156). -/
def magStep (s : State) : Result :=
  withElems .re (s.cfg.l / 2 + 1) s.re fun re =>
    withElems .im (s.cfg.l / 2 + 1) s.im fun im =>
      .next { s with mag := (magStage re im).map some, seqPhase := .spmReduce }

/-- Reduce (R158, R159). -/
def reduceStep (s : State) : Result :=
  withElems .mag (s.cfg.l / 2 + 1) s.mag fun mag =>
    .next { s with band := (bandStage s.cfg mag).map some, seqPhase := .spmNorm }

/-- Normalise (R162). -/
def normStep (s : State) : Result :=
  withElems .band s.cfg.n s.band fun band =>
    .next { s with inten := (normStage s.cfg band).map some, seqPhase := .spmEmit 0 }

/-- The configuration gate (R141): with `SPEC_OK = 0` SEQ takes no sample, issues no command and goes straight to the quantum
end. With `SPEC_OK = 1` a stage needs the tables R50 promises; without them the state is one no run reaches (log
entry 17). -/
def withSpectral (s : State) (k : State → Result) : Result :=
  if s.specOk then
    if s.cfg.spectralOk then k s else .fault .unreachableConfig
  else .next (quantumEnd s)

end Sys2Proof.Machine
end

