-- ==== Sys2Proof/Machine/Sequencer.lean ====
section
/-! DEFINITION. The steps of SEQ (43_mode_scheduler.md R187 to R192): the command port (41_led_driver.md R100), the emit stage
(42_spectral_mapper.md R166), the external quantum, the boundary, and the choice by phase (10_state.md R40). -/

namespace Sys2Proof.Machine

/-! ### The command port -/

/-- The port takes a command of holder `u` in phase condition `inPhase` (R100 (a) to (c)). Condition (d) holds because
every accepted command responds in the step that ends it. -/
def portAccepts (u : Grant) (inPhase : Bool) (s : State) : Bool :=
  decide (s.grant = u) && inPhase && !s.busy

/-- A command word is taken: Refused(cmd) before it executes where the model refuses it (R210, R213, R217); otherwise it is
decoded by `OP` (R84), recorded if the check refuses it, and run. -/
def takeCommand (w : U64) (s : State) : Result :=
  if refusesWord w s then .refused (.refusedCommand w) else exec (decodeCmd w) (noteRefusal w s)

/-! ### The emit stage (R166) -/

/-- The word of `setcolor b, c.r, c.g, c.b` (R90). -/
def setcolorWord (b : Nat) (c : Color) : U64 :=
  packIndexed 1#8 (BitVec.ofNat 32 b) (c.r ++ c.g ++ c.b)

/-- The word of `update` (R90). -/
def updateWord : U64 := packPlain 2#8 0#56

/-- SPM takes the response to its SETCOLOR, ignores it, and goes to the next cell (R166). -/
def emitNext (b : Nat) (s : State) : Result :=
  .next { s with spmResp := none, seqPhase := .spmEmit (b + 1) }

/-- SPM takes the response to its UPDATE, ignores it, and the quantum ends (R166, R192). -/
def emitDone (s : State) : State := quantumEnd { s with spmResp := none }

/-- Emit, in phase SPM_EMIT(b) (R166): SETCOLOR for `b < N`; then, at `b = N`, the UPDATE, and the quantum end once it has
responded. A `b` past `N`, which no run reaches, is past the loop too (log entry 17). -/
def emitStep (b : Nat) (s : State) : Result :=
  if portAccepts .spm true s then
    if b < s.cfg.n then
      withElem .inten b s.inten fun v =>
        thenNext (takeCommand (setcolorWord b (specColor s.cfg.specMask v)) s) (emitNext b)
    else
      match s.spmResp with
      | none => takeCommand updateWord s
      | some _ => .next (emitDone s)
  else held s

/-! ### The external quantum (R190, R191) -/

/-- The oldest message of worker `m`, and the queue without it; other workers' messages stay held (R100, R191). -/
def takeMessage (m : U32) : List (U32 × WorkerMsg) → Option (WorkerMsg × List (U32 × WorkerMsg))
  | [] => none
  | p :: ps =>
    if p.1 = m then some (p.2, ps)
    else (takeMessage m ps).map fun q => (q.1, p :: q.2)

/-- SEQ in EXT_RUN with worker `m` (R190): accept its next command, end the quantum on DONE, or wait. -/
def extRunWith (m : U32) (s : State) : Result :=
  if portAccepts (.ext m) true s then
    match takeMessage m s.workerQ with
    | none => held s
    | some (.cmd w, q) => takeCommand w { s with workerQ := q }
    | some (.done, q) => .next (quantumEnd { s with workerQ := q })
  else held s

/-- SEQ in EXT_RUN. The grant names the worker; without one no command is accepted and SEQ waits (R100). -/
def extRunStep (s : State) : Result :=
  match s.grant with
  | .ext m => extRunWith m s
  | .spm => held s
  | .none => held s

/-! ### The boundary (R187) and the choice by phase -/

/-- `CUR_MODE <- MODE` (R187). -/
def latchMode (s : State) : State := { s with curMode := s.mode }

/-- The quantum boundary: latch and dispatch, one step (R187, R188). -/
def boundaryStep (s : State) : Result := exec (decodeDispatch s.cfg.numModes s.mode) (latchMode s)

/-- One step of SEQ, by phase (R40, R41). -/
def seqStep (s : State) : Result :=
  match s.seqPhase with
  | .boundary => boundaryStep s
  | .spmAcquire j => withSpectral s (acquireStep j)
  | .spmWindow => withSpectral s windowStep
  | .spmDft => withSpectral s dftStep
  | .spmMag => withSpectral s magStep
  | .spmReduce => withSpectral s reduceStep
  | .spmNorm => withSpectral s normStep
  | .spmEmit b => withSpectral s (emitStep b)
  | .extRun => extRunStep s
  | .ser _ => .next (serCycle s)

end Sys2Proof.Machine
end

