-- ==== Sys2Proof/Machine/Environment.lean ====
section
/-! DEFINITION. The other steps: ARB's sample of the digital input (43_mode_scheduler.md R182 to R184), what the environment does
at the ports (60_exceptions.md R224), the reset input (70_reset_and_hazards.md R241), and where a code is placed so that the next step
runs it. -/

namespace Sys2Proof.Machine

/-- The pair `{BTN_PREV, BTN_SYNC}` (R88). -/
def edgePair (s : State) : BitVec 2 := BitVec.ofBool s.btnPrev ++ BitVec.ofBool s.btnSync

/-- ARB shifts the pin level in (R182). -/
def samplePin (level : Bool) (s : State) : State :=
  { s with btnPrev := s.btnSync, btnSync := level }

/-- One step of ARB (R182): sample, then act on the pair (R183), or not (R184). -/
def arbStep (level : Bool) (s : State) : Result :=
  match decodeEdge (edgePair (samplePin level s)) with
  | some i => exec i (samplePin level s)
  | none => .next (samplePin level s)

/-- A worker presents a message (R191). -/
def presentMessage (m : U32) (msg : WorkerMsg) (s : State) : State :=
  { s with workerQ := s.workerQ ++ [(m, msg)] }

/-- The reset input acts (R241): every piece of the block's state takes its reset value, with the same configuration.
The script and the record of refusals are not the block's and stay (R210; log entry 15). -/
def resetInput (level : Bool) (s : State) : State :=
  { State.resetWith s.cfg level with script := s.script, refusals := s.refusals }

/-- One event of the interleaving (R63). -/
def eventStep (e : Event) (s : State) : Result :=
  match e with
  | .pin level => arbStep level s
  | .seq => seqStep s
  | .sample v => .next (deliverSample v s)
  | .present m msg => .next (presentMessage m msg s)
  | .reset level => .next (resetInput level s)

/-- The next step of the machine once the configuration has passed the check: the script's next event, or SEQ (R63). DESIGN
CHOICE (log entry 1): from the end of the script SEQ steps alone; the endless runs of R63 and R254, in which events never cease,
are `EndlessRun` (Safety.lean), whose stream places the event of every step here. -/
def nextEvent (s : State) : Result :=
  match s.script with
  | [] => seqStep s
  | e :: rest => eventStep e { s with script := rest }

/-- The worker that holds the port, or that of the latched mode. -/
def portWorker (s : State) : U32 :=
  match s.grant with
  | .ext m => m
  | .spm => s.curMode
  | .none => s.curMode

/-- `s` with code `c` where the next step takes it (log entry 19): a command word presented first by the worker that holds
the port, in its quantum, with R210's hardware column where the model's check would refuse it; an edge pair that the next sample
of ARB completes; a mode at a boundary. -/
def placeCode (c : Code) (s : State) : State :=
  match c with
  | .cmd w =>
    { s with
      cfg := if (decodeCmd w).refusedByModel then { s.cfg with check := .hardware } else s.cfg
      grant := .ext (portWorker s), seqPhase := .extRun, busy := false
      workerQ := (portWorker s, .cmd w) :: s.workerQ
      script := .seq :: s.script }
  | .edge e => { s with btnSync := e.getLsbD 1, script := .pin (e.getLsbD 0) :: s.script }
  | .dispatch m => { s with mode := m, seqPhase := .boundary, script := .seq :: s.script }

end Sys2Proof.Machine
end

