-- ==== Sys2Proof/Machine/Step.lean ====
section
/-! DEFINITION. The step: the configuration check (70_reset_and_hazards.md R240), then the next event of the interleaving
(20_memory.md R63); and `withFetchWord`. -/

namespace Sys2Proof.Machine

/-- One step. A configuration that breaks a general constraint is refused (R240, ConfigRefused of R210; log
entry 16). -/
def step (s : State) : Host.Outcome State Fault Refusal :=
  if s.cfg.conforming then nextEvent s else .refused (.configRefused s.cfg)

/-- `s` with the opcode-table word `w` of `nbits` bits placed where the next step takes it (log entry 19). -/
def State.withFetchWord (s : State) (nbits w : Nat) : State :=
  match tableCode nbits w with
  | some c => placeCode c s
  | none => s

end Sys2Proof.Machine
end

