-- ==== Sys2Proof/Safety.lean ====
section
/-! DEFINITION. What claims about runs are stated in: runs of `step`, endless runs and weak fairness
(70_reset_and_hazards.md R254), the invariant of the reachable states (10_state.md R31, R35, R40, R42, R45 to R50;
43_mode_scheduler.md R192), and the counts and word tests the statements use. -/

namespace Sys2Proof.Machine

/-! ### Runs -/

/-- `k` steps, ended by the first fault or refusal. -/
def runSteps : Nat → State → Result
  | 0, s => .next s
  | k + 1, s => thenNext (step s) (runSteps k)

/-- It is SEQ's turn: the script is empty, or its next event is SEQ's; and the state SEQ steps from (R63). -/
def seqTurn (s : State) : Option State :=
  match s.script with
  | [] => some s
  | .seq :: rest => some { s with script := rest }
  | .pin _ :: _ => none
  | .sample _ :: _ => none
  | .present _ _ :: _ => none
  | .reset _ :: _ => none

/-- No event of the script is the reset input. -/
def noReset (es : List Event) : Bool :=
  es.all fun e => match e with
    | .reset _ => false
    | .pin _ => true
    | .seq => true
    | .sample _ => true
    | .present _ _ => true

/-- The falling edges ARB samples in a script, the last sampled level being `prev` (R182, R183). -/
def fallingEdges : Bool → List Event → Nat
  | _, [] => 0
  | prev, .pin level :: es => (if prev && !level then 1 else 0) + fallingEdges level es
  | prev, .seq :: es => fallingEdges prev es
  | prev, .sample _ :: es => fallingEdges prev es
  | prev, .present _ _ :: es => fallingEdges prev es
  | _, .reset level :: es => fallingEdges level es

/-- `k` EDGE_FALL steps (R183). -/
def edgeFalls : Nat → State → Result
  | 0, s => .next s
  | k + 1, s => thenNext (exec .edgeFall s) (edgeFalls k)

/-- No word the model's check refuses has run: R210 lets no other state count as final. In the spec's own model it holds in
every reachable state (`Inv.clean`). -/
def State.clean (s : State) : Bool := s.refusals.isEmpty

/-! ### Endless runs and fairness (R63, R254) -/

/-- The interleaving fixes the next step (R63): its event is `e`. -/
def State.withEvent (e : Event) (s : State) : State := { s with script := [e] }

/-- An endless run: the events `e 0, e 1, …` happen one a step, and no step stops. The stream is any, so edges, samples,
messages and SEQ's steps can each come for ever, in every interleaving R63 admits. -/
def EndlessRun (e : Nat → Event) (σ : Nat → State) : Prop :=
  ∀ n, step ((σ n).withEvent (e n)) = .next (σ (n + 1))

/-- SEQ has no enabled step: away from a boundary, its step changes nothing (R228; DEDUCED, log entries 5 and 23). -/
def seqWaits (s : State) : Prop := s.seqPhase ≠ .boundary ∧ seqStep s = .next s

/-- Weak fairness (R254): there is no time from which SEQ is always enabled and never steps. It asks nothing of the
environment: what is delivered stands in a claim's own premises. -/
def weaklyFair (e : Nat → Event) (σ : Nat → State) : Prop :=
  ∀ n, ∃ m, n ≤ m ∧ (e m = .seq ∨ seqWaits (σ m))

/-- The first `n` events of a stream. -/
def firstEvents (e : Nat → Event) (n : Nat) : List Event := (List.range n).map e

/-! ### What a command leaves behind -/

/-- `t` is `s` with the word `w` returned to the grant holder, and nothing else changed (R87, R67). -/
def answersOnly (w : U64) (s t : State) : Prop :=
  t = { s with
    respLog := s.respLog ++ [(s.grant, w)]
    spmResp := if s.grant = .spm then some w else s.spmResp }

/-- `t` is `s` after a whole frame of the cells `cells` has been sent and ACK returned (R102, R121): the frame's bits in
`LINK_LOG`, the serializer's registers as its end leaves them, SEQ in the phase it was in, and nothing else changed. -/
def frameSentFrom (cells : List Color) (s t : State) : Prop :=
  t = { s with
    frame := cells
    linkLog := s.linkLog ++ [frameBits s.cfg.wireOrder cells]
    serBits := frameBits s.cfg.wireOrder cells
    serPos := 24 * s.cfg.n
    serRet := s.seqPhase
    serCnt := 0#32
    serWraps := 0
    serSub := .gap
    linkOut := false
    busy := false
    respLog := s.respLog ++ [(s.grant, 0x8000000000000000#64)]
    spmResp := if s.grant = .spm then some 0x8000000000000000#64 else s.spmResp }

/-- The index is in range, `0 <= idx < N` (R101, R104). -/
def idxInRange (s : State) (idx : U32) : Prop := 0 ≤ idx.toInt ∧ idx.toInt < (s.cfg.n : Int)

/-! ### The invariant -/

/-- The first `n` elements of an array have been written (R48). -/
def written {α : Type} (n : Nat) (xs : List (Option α)) : Bool := (readElems n xs).isSome

/-- The phase of the unit of work: while a frame is sent, the phase it returns to (R42). -/
def workPhase (s : State) : SeqPhase :=
  match s.seqPhase with
  | .ser _ => s.serRet
  | p => p

/-- What holds while SEQ works in phase `p`: who holds the grant, and which arrays are written. -/
def phaseOk (s : State) : SeqPhase → Prop
  | .boundary => s.grant = .none
  | .spmAcquire j =>
    s.grant = .spm ∧ s.specOk = true ∧ j ≤ s.cfg.l ∧ written j s.sb = true
  | .spmWindow => s.grant = .spm ∧ s.specOk = true ∧ written s.cfg.l s.sb = true
  | .spmDft => s.grant = .spm ∧ s.specOk = true ∧ written s.cfg.l s.xw = true
  | .spmMag =>
    s.grant = .spm ∧ s.specOk = true ∧ written (s.cfg.l / 2 + 1) s.re = true ∧
      written (s.cfg.l / 2 + 1) s.im = true
  | .spmReduce => s.grant = .spm ∧ s.specOk = true ∧ written (s.cfg.l / 2 + 1) s.mag = true
  | .spmNorm => s.grant = .spm ∧ s.specOk = true ∧ written s.cfg.n s.band = true
  | .spmEmit b => s.grant = .spm ∧ s.specOk = true ∧ b ≤ s.cfg.n ∧ written s.cfg.n s.inten = true
  | .extRun => s.grant = .ext s.curMode
  | .ser _ => False

/-- The serializer's registers while a frame is sent (R42, R115, R119, R120). -/
structure SerOk (s : State) (k : Nat) : Prop where
  timing : s.cfg.level = .timing
  pos : k = s.serPos
  bits : s.serBits = frameBits s.cfg.wireOrder s.frame
  ret : s.serRet = .extRun ∨ s.serRet = .spmEmit s.cfg.n
  inBit : s.serSub ≠ .gap → s.serPos < s.serBits.length
  inGap : s.serSub = .gap → s.serPos = s.serBits.length
  line : s.linkOut = true ↔ s.serSub = .high
  count : ∀ v, s.serBits[s.serPos]? = some v →
    (s.serSub = .high → serElapsed s < highTime s.cfg v) ∧ (s.serSub = .low → serElapsed s < lowTime s.cfg v)
  gapCount : s.serSub = .gap → serElapsed s < s.cfg.tReset

/-- The shapes of the arrays (R31, R45 to R47). -/
structure ShapeOk (s : State) : Prop where
  frame : s.frame.length = s.cfg.n
  sb : s.sb.length = s.cfg.l
  xw : s.xw.length = s.cfg.l
  re : s.re.length = s.cfg.l / 2 + 1
  im : s.im.length = s.cfg.l / 2 + 1
  mag : s.mag.length = s.cfg.l / 2 + 1
  band : s.band.length = s.cfg.n
  inten : s.inten.length = s.cfg.n
  log : ∀ f ∈ s.linkLog, f.length = 24 * s.cfg.n

/-- The invariant of the reachable states. -/
structure Inv (s : State) : Prop where
  conforming : s.cfg.conforming = true
  mode : s.mode.toNat < s.cfg.numModes
  curMode : s.curMode.toNat < s.cfg.numModes
  specOk : s.specOk = s.cfg.spectralOk
  busy : s.busy = true ↔ ∃ k, s.seqPhase = .ser k
  idle : s.busy = false → s.linkOut = false
  shape : ShapeOk s
  phase : phaseOk s (workPhase s)
  ser : ∀ k, s.seqPhase = .ser k → SerOk s k
  resp : s.spmResp ≠ none → s.seqPhase = .spmEmit s.cfg.n
  samples : s.sampleQ ≠ [] → ∃ j, s.seqPhase = .spmAcquire j ∧ j < s.cfg.l
  clean : s.cfg.check = .refuse → s.clean = true

end Sys2Proof.Machine
end

