-- ==== Sys2Proof/Certificates/Slice0/Obligations.lean ====
section
/-! DEFINITION. The statements for the provers. -/

open Sys2Proof Sys2Proof.Machine

/-! ### Encoding (30_encoding.md) -/

/-- Every operand of every instruction survives its encoding (R81 to R84, R88, R89). -/
def Obligations.DecodeOfEncode : Prop :=
  ∀ (numModes : Nat) (i : Instr), i.operandsOk numModes = true → decode numModes (encode i) = .ok i

/-- Every code that decodes is the encoding of what it decodes to, so no bit of a code is dropped. -/
def Obligations.EncodeOfDecode : Prop :=
  ∀ (numModes : Nat) (c : Code) (i : Instr),
    decode numModes c = .ok i → encode i = c ∧ i.operandsOk numModes = true

/-- R93: decode is total. Every 64-bit word is one of the five commands or reserved; every edge pair is EDGE_FALL or no
edge; every dispatch value is one of the rows of R89. -/
def Obligations.DecodeIsTotal : Prop :=
  (∀ (numModes : Nat) (w : U64), ∃ i, decode numModes (.cmd w) = .ok i ∧
    ((i.isReserved = true ∧ opDefined (cmdOp w) = false) ∨
      (∃ idx r g b, i = .setcolor idx r g b) ∨ (∃ z, i = .update z) ∨ (∃ z, i = .clear z) ∨
      (∃ idx z, i = .readcolor idx z) ∨ (∃ id z, i = .readreg id z))) ∧
  (∀ (numModes : Nat) (e : BitVec 2),
    decode numModes (.edge e) = if e = 0b10#2 then .ok .edgeFall else .error (.noEdge e)) ∧
  (∀ (numModes : Nat) (m : U32), 4 ≤ numModes →
    decode numModes (.dispatch m) = .ok
      (if m.toNat = 0 then .dispatchMotionTilt
        else if m.toNat = 1 then .dispatchSpectral
        else if m.toNat = 2 then .dispatchTelemetry
        else if m.toNat = 3 then .dispatchPlaceholder
        else if m.toNat < numModes then .dispatchExt m
        else .dispatchUnreachable m))

/-- The words of 95_test_vectors.md section 2.2 decode to the commands they stand for. -/
def Obligations.SpecWordsDecode : Prop :=
  decodeCmd 0x010000000B0000FF#64 = .setcolor 11#32 0#8 0#8 255#8 ∧
  decodeCmd 0x0180000000010203#64 = .setcolor 0x80000000#32 1#8 2#8 3#8 ∧
  decodeCmd 0x0200000000000000#64 = .update 0#56 ∧
  decodeCmd 0x0300000000000000#64 = .clear 0#56 ∧
  decodeCmd 0x04FFFFFFFF000000#64 = .readcolor 0xFFFFFFFF#32 0#24 ∧
  decodeCmd 0x05FFFFFFFF000000#64 = .readreg 0xFFFFFFFF#32 0#24 ∧
  decodeCmd 0x0600000000000000#64 = .reserved 6#8 0#56 ∧
  decodeEdge 0b10#2 = some .edgeFall ∧
  decodeDispatch 4 1#32 = .dispatchSpectral

/-- R85, R86: the model's check refuses exactly the words that match no strict row of opcode_table.json, and the hardware
ignores a should-be-zero field. -/
def Obligations.ModelCheckIsStrictTable : Prop :=
  (∀ w : U64, (decodeCmd w).refusedByModel = false ↔
    w &&& 0xFF00000000000000#64 = 0x0100000000000000#64 ∨
    w = 0x0200000000000000#64 ∨
    w = 0x0300000000000000#64 ∨
    w &&& 0xFF00000000FFFFFF#64 = 0x0400000000000000#64 ∨
    w &&& 0xFF00000000FFFFFF#64 = 0x0500000000000000#64) ∧
  (∀ (s : State) (z : BitVec 56), exec (.update z) s = exec (.update 0#56) s ∧
    exec (.clear z) s = exec (.clear 0#56) s) ∧
  (∀ (s : State) (x : U32) (z : BitVec 24), exec (.readcolor x z) s = exec (.readcolor x 0#24) s ∧
    exec (.readreg x z) s = exec (.readreg x 0#24) s)

/-- R90, R91: the assembler gives each line its word, expands the two pseudo-instructions, and refuses an operand outside its
range (the range of a signed index is DEDUCED from R82, log entry 27). -/
def Obligations.AssemblerGivesWords : Prop :=
  (∀ (idx : Int) (r g b : Nat),
    ((-2 ^ 31 ≤ idx ∧ idx < 2 ^ 31 ∧ r ≤ 255 ∧ g ≤ 255 ∧ b ≤ 255) →
      (assemble (.setcolor idx r g b)).map encode = some (.cmd (packIndexed 0x01#8 (BitVec.ofInt 32 idx)
        (BitVec.ofNat 8 r ++ BitVec.ofNat 8 g ++ BitVec.ofNat 8 b)))) ∧
    (¬(-2 ^ 31 ≤ idx ∧ idx < 2 ^ 31 ∧ r ≤ 255 ∧ g ≤ 255 ∧ b ≤ 255) →
      assemble (.setcolor idx r g b) = none)) ∧
  (assemble .update).map encode = some (.cmd 0x0200000000000000#64) ∧
  (assemble .clear).map encode = some (.cmd 0x0300000000000000#64) ∧
  (∀ idx : Int,
    ((-2 ^ 31 ≤ idx ∧ idx < 2 ^ 31) → (assemble (.readcolor idx)).map encode =
      some (.cmd (packIndexed 0x04#8 (BitVec.ofInt 32 idx) 0#24))) ∧
    (¬(-2 ^ 31 ≤ idx ∧ idx < 2 ^ 31) → assemble (.readcolor idx) = none)) ∧
  (∀ id : Nat,
    (id < 2 ^ 32 → (assemble (.readreg id)).map encode =
      some (.cmd (packIndexed 0x05#8 (BitVec.ofNat 32 id) 0#24))) ∧
    (2 ^ 32 ≤ id → assemble (.readreg id) = none)) ∧
  (∀ (idx : Int) (r g b : Nat), r ≤ 255 → g ≤ 255 → b ≤ 255 →
    assemble (.setrgb24 idx (r * 65536 + g * 256 + b)) = assemble (.setcolor idx r g b)) ∧
  (∀ idx : Int, assemble (.black idx) = assemble (.setcolor idx 0 0 0))

/-! ### The step -/

/-- The oldest command word of the worker that holds the grant, in its quantum and with the port free, is what the step takes
(R70, R100): in the spec's own model a word its check refuses ends in Refused(cmd) before it executes (R213, R217); every other
word runs, decoded by OP, with R210's hardware column recording a word the check refuses. The queue is log entry 12, the
two readings of R210 are log entry 4. -/
def Obligations.StepRunsPresentedCommand : Prop :=
  ∀ (s s' : State) (m : U32) (w : U64) (pre post : List (U32 × WorkerMsg)),
    s.cfg.conforming = true → seqTurn s = some s' → s.seqPhase = .extRun → s.grant = .ext m →
    s.busy = false → s.workerQ = pre ++ (m, .cmd w) :: post → (∀ p ∈ pre, p.1 ≠ m) →
    ((s.cfg.check = .hardware ∨ (decodeCmd w).refusedByModel = false) →
      step s = exec (decodeCmd w)
        { s' with
          workerQ := pre ++ post
          refusals := if (decodeCmd w).refusedByModel then s.refusals ++ [w] else s.refusals }) ∧
    ((s.cfg.check = .refuse ∧ (decodeCmd w).refusedByModel = true) →
      step s = .refused (.refusedCommand w))

/-- R182: a sample of the digital input shifts the two flip-flops and decodes their pair; a falling edge runs EDGE_FALL and any
other pair changes nothing else (R184). -/
def Obligations.StepRunsEdgePair : Prop :=
  ∀ (s : State) (level : Bool) (rest : List Event),
    s.cfg.conforming = true → s.script = .pin level :: rest →
    (s.btnSync = true ∧ level = false →
      step s = exec .edgeFall { s with script := rest, btnPrev := s.btnSync, btnSync := level }) ∧
    (¬(s.btnSync = true ∧ level = false) →
      step s = .next { s with script := rest, btnPrev := s.btnSync, btnSync := level })

/-- R187, R188: a quantum boundary latches MODE and runs the dispatch row of its value. -/
def Obligations.StepDispatchesLatchedMode : Prop :=
  ∀ (s s' : State), s.cfg.conforming = true → seqTurn s = some s' → s.seqPhase = .boundary →
    ∃ i, decode s.cfg.numModes (.dispatch s.mode) = .ok i ∧
      step s = exec i { s' with curMode := s.mode }

/-- On SEQ's turn a step is SEQ's step in its phase; the other events act at their ports (R63, R146, R191, R241; the
port conventions are the model's, log entries 1, 11, 12 and 15). -/
def Obligations.StepIsNextEvent : Prop :=
  (∀ (s s' : State), s.cfg.conforming = true → seqTurn s = some s' → step s = seqStep s') ∧
  (∀ (s : State) (v : Q15) (rest : List Event), s.cfg.conforming = true → s.script = .sample v :: rest →
    ∃ t, step s = .next t ∧ t = { s with script := rest, sampleQ := t.sampleQ } ∧
      ((∃ j, s.seqPhase = .spmAcquire j ∧ j < s.cfg.l) → t.sampleQ = s.sampleQ ++ [v]) ∧
      (¬(∃ j, s.seqPhase = .spmAcquire j ∧ j < s.cfg.l) → t.sampleQ = s.sampleQ)) ∧
  (∀ (s : State) (m : U32) (msg : WorkerMsg) (rest : List Event),
    s.cfg.conforming = true → s.script = .present m msg :: rest →
    step s = .next { s with script := rest, workerQ := s.workerQ ++ [(m, msg)] }) ∧
  (∀ (s : State) (level : Bool) (rest : List Event),
    s.cfg.conforming = true → s.script = .reset level :: rest →
    step s = .next { State.resetWith s.cfg level with script := rest, refusals := s.refusals })

/-- R214: a worker's command takes effect only in its own quantum with the port free: otherwise a step that is not the reset
input takes none of its messages. -/
def Obligations.CommandHeldOutsideGrant : Prop :=
  ∀ (s t : State) (m : U32), step s = .next t →
    (∀ level rest, s.script ≠ .reset level :: rest) →
    ¬(s.grant = .ext m ∧ s.seqPhase = .extRun ∧ s.busy = false ∧ (seqTurn s).isSome = true) →
    ∃ added, t.workerQ.filter (fun p => p.1 = m) = s.workerQ.filter (fun p => p.1 = m) ++ added ∧
      (∀ x ∈ added, ∃ rest, s.script = .present m x.2 :: rest)

/-- R228: outside a boundary SEQ waits exactly when no sample has been delivered to an acquisition, or the worker of the
running quantum has presented nothing. That a wait is a step that changes nothing is log entry 5 (DEDUCED), and that what
was presented is a queue is log entry 12 (DESIGN CHOICE). -/
def Obligations.WaitsExactlyForSampleOrWorker : Prop :=
  ∀ (s s' : State), Inv s → seqTurn s = some s' → s.seqPhase ≠ .boundary →
    (step s = .next s' ↔
      (∃ j, s.seqPhase = .spmAcquire j ∧ j < s.cfg.l ∧ s.sampleQ = []) ∨
      (s.seqPhase = .extRun ∧ takeMessage s.curMode s.workerQ = none))

/-- R210, R213: a step only adds words to the record of refusals, each one a word the model's check refuses, and in the
spec's own model, where such a word ends the run, it adds none (log entry 4). -/
def Obligations.RefusalsAreKept : Prop :=
  ∀ (s t : State), step s = .next t →
    ∃ ws, t.refusals = s.refusals ++ ws ∧ (∀ w ∈ ws, (decodeCmd w).refusedByModel = true) ∧
      (s.cfg.check = .refuse → ws = [])

/-! ### Driver commands (41_led_driver.md) -/

/-- R101: the word `{0x01, idx, r, g, b}` is SETCOLOR; it writes the cell its index names and no other, answers ACK, and out of
range writes nothing. -/
def Obligations.SetcolorWritesOneCell : Prop :=
  ∀ (s : State) (idx : U32) (r g b : Byte), frameWf s = true →
    decodeCmd (packIndexed 0x01#8 idx (r ++ g ++ b)) = .setcolor idx r g b ∧
    ∃ t, exec (.setcolor idx r g b) s = .next t ∧
      answersOnly 0x8000000000000000#64 { s with frame := t.frame } t ∧
      t.frame.length = s.frame.length ∧
      (idxInRange s idx → t.frame[idx.toInt.toNat]? = some ⟨r, g, b⟩) ∧
      (∀ j : Nat, (j : Int) ≠ idx.toInt → t.frame[j]? = s.frame[j]?) ∧
      (¬ idxInRange s idx → t.frame = s.frame)

/-- R104: a word `{0x04, idx, z}` is READCOLOR, whatever its should-be-zero field `z`; it answers the cell with VALID = 1, or
MISS, and changes nothing. -/
def Obligations.ReadcolorAnswersCell : Prop :=
  ∀ (s : State) (idx : U32) (z : BitVec 24), frameWf s = true →
    decodeCmd (packIndexed 0x04#8 idx z) = .readcolor idx z ∧
    ∃ t w, exec (.readcolor idx z) s = .next t ∧ answersOnly w s t ∧
      (idxInRange s idx → ∃ c, s.frame[idx.toInt.toNat]? = some c ∧
        w.toNat = 0xC000000000000000 + c.r.toNat * 65536 + c.g.toNat * 256 + c.b.toNat) ∧
      (¬ idxInRange s idx → w = 0x8000000000000000#64)

/-- The source's readback property (R101, R104): READCOLOR after SETCOLOR of an index in range answers the colour written,
and a READCOLOR of another index answers as before. -/
def Obligations.ReadbackAfterSetcolor : Prop :=
  ∀ (s : State) (idx : U32) (r g b : Byte) (z : BitVec 24), frameWf s = true →
    ∃ t, exec (.setcolor idx r g b) s = .next t ∧
      (idxInRange s idx → ∃ u w, exec (.readcolor idx z) t = .next u ∧ answersOnly w t u ∧
        w.toNat = 0xC000000000000000 + r.toNat * 65536 + g.toNat * 256 + b.toNat) ∧
      (∀ idx' : U32, idx' ≠ idx → ∃ u v w, exec (.readcolor idx' z) s = .next u ∧
        exec (.readcolor idx' z) t = .next v ∧ answersOnly w s u ∧ answersOnly w t v)

/-- R105: READREG answers the register of R53 with VALID = 1, or MISS, and changes nothing. -/
def Obligations.ReadregAnswersRegister : Prop :=
  ∀ (s : State) (id : U32) (z : BitVec 24),
    ∃ t w, exec (.readreg id z) s = .next t ∧ answersOnly w s t ∧
      (id.toNat = 0 → w.toNat = 0xC000000000000000 + s.mode.toNat) ∧
      (id.toNat = 1 → w.toNat = 0xC000000000000000 + s.curMode.toNat) ∧
      (id.toNat = 2 → w.toNat =
        0xC000000000000000 + (if s.busy then 2 else 0) + (if s.specOk then 1 else 0)) ∧
      (id.toNat = 3 → w.toNat = 0xC000000000000000 + s.cfg.n % 4294967296) ∧
      (id.toNat = 4 → w.toNat = 0xC000000000000000 + s.cfg.l % 4294967296) ∧
      (id.toNat = 5 → w.toNat = 0xC000000000000000 + s.cfg.numModes % 4294967296) ∧
      (6 ≤ id.toNat → w = 0x8000000000000000#64)

/-- R102 at the operation level: UPDATE appends the Frame's bits to LINK_LOG, answers ACK, and leaves the Frame and the
rest as they were. -/
def Obligations.UpdateSendsFrame : Prop :=
  ∀ (s : State) (z : BitVec 56), s.cfg.level = .operation → frameWf s = true →
    ∃ t, exec (.update z) s = .next t ∧ frameSentFrom s.frame s t

/-- R103 at the operation level: CLEAR blacks every cell, appends `24*N` zero bits and answers ACK. -/
def Obligations.ClearBlacksAndSends : Prop :=
  ∀ (s : State) (z : BitVec 56), s.cfg.level = .operation →
    ∃ t, exec (.clear z) s = .next t ∧ frameSentFrom (List.replicate s.cfg.n ⟨0#8, 0#8, 0#8⟩) s t ∧
      t.linkLog = s.linkLog ++ [List.replicate (24 * s.cfg.n) false]

/-- The source's property of `clear()` (R103): after CLEAR every index in range reads back black, with VALID = 1, at either
level. -/
def Obligations.ReadbackAfterClear : Prop :=
  ∀ (s : State) (z : BitVec 56) (idx : U32) (z' : BitVec 24), idxInRange s idx →
    ∃ t u, exec (.clear z) s = .next t ∧ exec (.readcolor idx z') t = .next u ∧
      answersOnly 0xC000000000000000#64 t u

/-- R106: a reserved opcode answers NAK and changes no state. -/
def Obligations.ReservedAnswersNak : Prop :=
  ∀ (s : State) (op : Byte) (payload : BitVec 56),
    ∃ t, exec (.reserved op payload) s = .next t ∧ answersOnly 0x0000000000000000#64 s t

/-- R116, R117: the frame's bit list holds `24*N` bits, cell 0 first, each cell's channels in WIRE_ORDER, each channel most
significant bit first; the channels R, G and B are the cell's `r`, `g` and `b`. -/
def Obligations.FrameBitsOrder : Prop :=
  (∀ c : Color, channelOf .r c = c.r ∧ channelOf .g c = c.g ∧ channelOf .b c = c.b) ∧
  ∀ (o : WireOrder) (f : List Color),
    (frameBits o f).length = 24 * f.length ∧
    ∀ (i : Nat) (c : Color), f[i]? = some c → ∀ k : Nat, k < 8 →
      (frameBits o f)[24 * i + k]? = some ((channelOf o.first c).getLsbD (7 - k)) ∧
      (frameBits o f)[24 * i + 8 + k]? = some ((channelOf o.second c).getLsbD (7 - k)) ∧
      (frameBits o f)[24 * i + 16 + k]? = some ((channelOf o.third c).getLsbD (7 - k))

/-- R117: under a WIRE_ORDER that is a permutation, a frame on the wire determines every cell sent. -/
def Obligations.FrameBitsDetermineCells : Prop :=
  ∀ (o : WireOrder) (f f' : List Color), o.isPermutation = true →
    frameBits o f = frameBits o f' → f = f'

/-- R102, R121, R123, with no events to come: at the timing level UPDATE and CLEAR start the serializer, and after exactly
`24*N*(T0H + T0L) + TRESET` steps of SEQ the state is the one the operation level reaches in one step. That a step is a cycle
is log entry 24, that the counter counts past 2^32 log entry 7, and the registers a one-step frame leaves log entry 18. -/
def Obligations.SerializerRefinesOneStep : Prop :=
  ∀ (s : State) (z : BitVec 56) (i : Instr) (cells : List Color),
    s.cfg.conforming = true → s.cfg.level = .timing → s.script = [] → frameWf s = true →
    (i = .update z ∧ cells = s.frame ∨ i = .clear z ∧ cells = List.replicate s.cfg.n ⟨0#8, 0#8, 0#8⟩) →
    ∃ t u, exec i s = .next t ∧ t.busy = true ∧ t.seqPhase = .ser 0 ∧
      runSteps (24 * s.cfg.n * (s.cfg.t0h + s.cfg.t0l) + s.cfg.tReset) t = .next u ∧
      frameSentFrom cells s u ∧
      ∀ k v, k < 24 * s.cfg.n * (s.cfg.t0h + s.cfg.t0l) + s.cfg.tReset → runSteps k t = .next v →
        v.busy = true ∧ v.linkLog = s.linkLog ∧ v.frame = cells

/-- R119, with no events to come (log entry 1): sending a bit of value `v` drives LINK_OUT high for `TvH` cycles and then low for
`TvL` cycles, and then the next bit begins, or after the last bit the latch gap. The two envelopes have one period and differ.
That a step is a cycle is log entry 24, that the counter counts past 2^32 log entry 7. -/
def Obligations.BitEnvelope : Prop :=
  ∀ (s : State) (v : Bool), s.cfg.conforming = true → s.script = [] → s.seqPhase = .ser s.serPos →
    s.serSub = .high → s.serCnt = 0#32 → s.serWraps = 0 → s.linkOut = true →
    s.serBits[s.serPos]? = some v →
    (highTime s.cfg v = (if v then s.cfg.t1h else s.cfg.t0h) ∧
      lowTime s.cfg v = (if v then s.cfg.t1l else s.cfg.t0l) ∧
      s.cfg.t0h + s.cfg.t0l = s.cfg.t1h + s.cfg.t1l ∧ s.cfg.t0h < s.cfg.t1h) ∧
    (∀ k, k < highTime s.cfg v + lowTime s.cfg v →
      ∃ t, runSteps k s = .next t ∧ t.linkOut = decide (k < highTime s.cfg v)) ∧
    (∃ t, runSteps (highTime s.cfg v + lowTime s.cfg v) s = .next t ∧
      t.serPos = s.serPos + 1 ∧ t.seqPhase = .ser (s.serPos + 1) ∧ t.serCnt = 0#32 ∧
      t.serWraps = 0 ∧ t.serBits = s.serBits ∧ t.linkLog = s.linkLog ∧
      (s.serPos + 1 < s.serBits.length → t.serSub = .high ∧ t.linkOut = true) ∧
      (s.serBits.length ≤ s.serPos + 1 → t.serSub = .gap ∧ t.linkOut = false))

/-- R120, R121, with no events to come (log entry 1): after the last bit the serializer holds LINK_OUT low for TRESET cycles, busy
throughout, and only then completes: the frame joins LINK_LOG, BUSY falls, SEQ resumes at SER_RET and ACK is returned. That a
step is a cycle is log entry 24, that the counter counts past 2^32 log entry 7. -/
def Obligations.LatchGapThenCompletion : Prop :=
  ∀ s : State, s.cfg.conforming = true → s.script = [] → (∃ k, s.seqPhase = .ser k) →
    s.serSub = .gap → s.serCnt = 0#32 → s.serWraps = 0 → s.linkOut = false → s.busy = true →
    (∀ k, k < s.cfg.tReset → ∃ t, runSteps k s = .next t ∧
      t = { s with serCnt := BitVec.ofNat 32 k, serWraps := k / 2 ^ 32 } ∧ t.linkOut = false ∧ t.busy = true) ∧
    ∃ t, runSteps s.cfg.tReset s = .next t ∧
      answersOnly 0x8000000000000000#64
        { s with linkLog := s.linkLog ++ [s.serBits], busy := false, seqPhase := s.serRet } t

/-- R122: a rising edge of LINK_OUT happens only at the start of a bit, and the line is low while no frame is in flight. -/
def Obligations.LinkRisesOnlyAtBitStart : Prop :=
  (∀ s t : State, step s = .next t → s.linkOut = false → t.linkOut = true →
    t.serSub = .high ∧ t.serCnt = 0#32 ∧ t.serWraps = 0 ∧ t.seqPhase = .ser t.serPos) ∧
  (∀ s t : State, Inv s → step s = .next t → t.busy = false → t.linkOut = false)

/-- R124: a step that is not the reset input leaves LINK_LOG alone or appends the bits of the whole Frame as it stands, and no
step changes the Frame while a frame is in flight: no partial frame is ever visible. -/
def Obligations.NoPartialFrame : Prop :=
  ∀ s t : State, Inv s → step s = .next t → (∀ level rest, s.script ≠ .reset level :: rest) →
    (s.busy = true → t.frame = s.frame) ∧
    (t.linkLog = s.linkLog ∨
      (t.linkLog = s.linkLog ++ [frameBits t.cfg.wireOrder t.frame] ∧ t.frame.length = t.cfg.n))

/-- R31: the only writes to FRAME are SETCOLOR, CLEAR and reset: a step that changes it is the reset input, a SETCOLOR of the
emit stage, or a SETCOLOR or CLEAR the holding worker presented (so R196: no mode change and no quantum end writes it). -/
def Obligations.FrameWrittenOnlyByCommands : Prop :=
  ∀ s t : State, step s = .next t → t.frame ≠ s.frame →
    (∃ level rest, s.script = .reset level :: rest) ∨
    (∃ b, (seqTurn s).isSome = true ∧ s.seqPhase = .spmEmit b ∧ b < s.cfg.n ∧ s.grant = .spm) ∨
    (∃ m w q, (seqTurn s).isSome = true ∧ s.seqPhase = .extRun ∧ s.grant = .ext m ∧
      takeMessage m s.workerQ = some (.cmd w, q) ∧ (cmdOp w = 1#8 ∨ cmdOp w = 3#8))

/-! ### Mode register, scheduler and arbiter (43_mode_scheduler.md) -/

/-- R183: the pair 0b10 is EDGE_FALL; it adds one to MODE modulo NUM_MODES and changes nothing else. -/
def Obligations.EdgeFallIncrementsMode : Prop :=
  ∀ s : State, s.cfg.conforming = true →
    decodeEdge 0b10#2 = some .edgeFall ∧
    ∃ t, exec .edgeFall s = .next t ∧ t = { s with mode := t.mode } ∧
      t.mode.toNat = (s.mode.toNat + 1) % s.cfg.numModes

/-- R195: after `M` EDGE_FALL steps from MODE = 0, MODE = M mod NUM_MODES, for every `M >= 0`. -/
def Obligations.EdgeCountLaw : Prop :=
  ∀ (s : State) (k : Nat), s.cfg.conforming = true → s.mode = 0#32 →
    ∃ t, edgeFalls k s = .next t ∧ t = { s with mode := t.mode } ∧ t.mode.toNat = k % s.cfg.numModes

/-- R195, R229: whatever SEQ and the environment do meanwhile, a whole script without a reset adds to MODE, modulo
NUM_MODES, the number of falling edges ARB sampled in it. The run stops only in Refused(cmd), in the spec's own model, at a word
a worker presented (log entry 4). -/
def Obligations.EveryFallingEdgeCounts : Prop :=
  ∀ s : State, Inv s → noReset s.script = true →
    (∃ t, runSteps s.script.length s = .next t ∧ t.script = [] ∧
      t.mode.toNat = (s.mode.toNat + fallingEdges s.btnSync s.script) % s.cfg.numModes) ∨
    (s.cfg.check = .refuse ∧ ∃ m w, runSteps s.script.length s = .refused (.refusedCommand w) ∧
      (decodeCmd w).refusedByModel = true ∧
      ((m, WorkerMsg.cmd w) ∈ s.workerQ ∨ Event.present m (.cmd w) ∈ s.script))

/-- R186: a step of ARB changes only MODE, BTN_PREV and BTN_SYNC. -/
def Obligations.ArbTouchesOnlyModeAndButton : Prop :=
  ∀ (s t : State) (level : Bool) (rest : List Event), s.script = .pin level :: rest → step s = .next t →
    t = { s with script := rest, mode := t.mode, btnPrev := s.btnSync, btnSync := level }

/-- R33, R194: no step but a sampled falling edge and the reset input changes MODE, and none but ARB's and the reset input
changes the two flip-flops. -/
def Obligations.OnlyArbWritesMode : Prop :=
  ∀ s t : State, step s = .next t → (∀ level rest, s.script ≠ .reset level :: rest) →
    ((∀ rest, s.script = .pin false :: rest → s.btnSync = false) → t.mode = s.mode) ∧
    ((∀ level rest, s.script ≠ .pin level :: rest) → t.btnSync = s.btnSync ∧ t.btnPrev = s.btnPrev)

/-- R193: the latched mode changes only at a boundary, where it becomes MODE, and at the reset input. -/
def Obligations.CurModeLatchedOnlyAtBoundary : Prop :=
  ∀ s t : State, step s = .next t → (∀ level rest, s.script ≠ .reset level :: rest) →
    (t.curMode = s.curMode ∨
      (s.seqPhase = .boundary ∧ (seqTurn s).isSome = true ∧ t.curMode = s.mode ∧ t.mode = s.mode))

/-- R193: a mode change does not disturb a spectral pass or a frame in flight: with another value in MODE, SEQ's step does the
same, MODE apart. -/
def Obligations.ModeChangeDoesNotDisturbPass : Prop :=
  ∀ (s : State) (m : U32), s.seqPhase ≠ .boundary → s.seqPhase ≠ .extRun →
    (∀ t, seqStep s = .next t → seqStep { s with mode := m } = .next { t with mode := m }) ∧
    (∀ r, seqStep s = .fault r → seqStep { s with mode := m } = .fault r)

/-- R190: the four external dispatch rows grant the port to the worker of their mode, signal START and enter EXT_RUN. -/
def Obligations.ExternalDispatchStartsWorker : Prop :=
  ∀ (s : State) (i : Instr) (m : U32),
    (i = .dispatchMotionTilt ∧ m = 0#32 ∨ i = .dispatchTelemetry ∧ m = 2#32 ∨
      i = .dispatchPlaceholder ∧ m = 3#32 ∨ i = .dispatchExt m) →
    exec i s = .next { s with grant := .ext m, startLog := s.startLog ++ [m], seqPhase := .extRun }

/-- R189, R141: DISPATCH_SPECTRAL starts the pass with GRANT = SPM; with SPEC_OK = 0 the quantum is empty and ends at once. -/
def Obligations.SpectralDispatch : Prop :=
  ∀ s : State,
    (s.specOk = true → exec .dispatchSpectral s = .next { s with grant := .spm, seqPhase := .spmAcquire 0 }) ∧
    (s.specOk = false → exec .dispatchSpectral s = .next { s with grant := .none, seqPhase := .boundary })

/-- R198: a dispatch that meets CUR_MODE >= NUM_MODES is the outcome Unreachable, and no state that meets the invariant does
so. -/
def Obligations.UnreachableModeFaults : Prop :=
  (∀ (s : State) (m : U32), exec (.dispatchUnreachable m) s = .fault (.unreachableMode m)) ∧
  (∀ s s' : State, s.cfg.conforming = true → seqTurn s = some s' → s.seqPhase = .boundary →
    s.cfg.numModes ≤ s.mode.toNat → step s = .fault (.unreachableMode s.mode)) ∧
  (∀ (s : State) (m : U32), Inv s → step s ≠ .fault (.unreachableMode m))

/-- R192: when the worker signals DONE the quantum ends in one step: GRANT <- NONE and SEQ_PHASE <- BOUNDARY. That DONE waits
in the worker's queue is log entry 12 (DESIGN CHOICE), that taking it is the step that ends the quantum log entry 14 (DEDUCED). -/
def Obligations.DoneEndsQuantum : Prop :=
  ∀ (s s' : State) (m : U32) (pre post : List (U32 × WorkerMsg)),
    s.cfg.conforming = true → seqTurn s = some s' → s.seqPhase = .extRun → s.grant = .ext m →
    s.busy = false → s.workerQ = pre ++ (m, .done) :: post → (∀ p ∈ pre, p.1 ≠ m) →
    step s = .next { s' with workerQ := pre ++ post, grant := .none, seqPhase := .boundary }

/-! ### Spectral Mapper (42_spectral_mapper.md) -/

/-- R145, R146: acquire takes one delivered sample into SB[j]; after the L-th it goes on to the window. -/
def Obligations.AcquireTakesOneSample : Prop :=
  ∀ (s : State) (j : Nat) (v : Q15) (rest : List Q15), s.specOk = true → s.cfg.spectralOk = true →
    s.seqPhase = .spmAcquire j → s.sb.length = s.cfg.l →
    (j < s.cfg.l → s.sampleQ = v :: rest →
      ∃ t, seqStep s = .next t ∧
        t = { s with sb := t.sb, sampleQ := t.sampleQ, seqPhase := .spmAcquire (j + 1) } ∧
        t.sb[j]? = some (some v) ∧ (∀ n, n ≠ j → t.sb[n]? = s.sb[n]?) ∧
        (j + 1 < s.cfg.l → t.sampleQ = rest) ∧ (j + 1 = s.cfg.l → t.sampleQ = [])) ∧
    (j = s.cfg.l → seqStep s = .next { s with seqPhase := .spmWindow })

/-- R150: the window stage multiplies, rounds half up and saturates, for every element. -/
def Obligations.WindowStageComputes : Prop :=
  ∀ (s : State) (x : List Q15), s.specOk = true → s.cfg.spectralOk = true → s.seqPhase = .spmWindow →
    s.sb = x.map some → x.length = s.cfg.l →
    ∃ t, seqStep s = .next t ∧ t = { s with xw := t.xw, seqPhase := .spmDft } ∧ t.xw.length = s.cfg.l ∧
      ∀ (n : Nat) (a w : Q15), x[n]? = some a → s.cfg.window[n]? = some w →
        ∃ y : Q15, t.xw[n]? = some (some y) ∧
          y.toInt = max (-32768) (min 32767 ((a.toInt * w.toInt + 2 ^ 14) >>> (15 : Nat)))

/-- R150, its corner case: the product of two Q15 values saturates for one pair only, both at -32768. -/
def Obligations.WindowSaturatesOnlyAtMinimum : Prop :=
  ∀ a w : Q15,
    (windowed a w).toInt = (a.toInt * w.toInt + 2 ^ 14) >>> (15 : Nat) ∨
      (a.toInt = -32768 ∧ w.toInt = -32768 ∧ (windowed a w).toInt = 32767)

/-- R153, R154: the transform stage computes the exact sums, none larger in size than 2^46. -/
def Obligations.DftStageIsExact : Prop :=
  ∀ (s : State) (x : List Q15), s.specOk = true → s.cfg.spectralOk = true → s.seqPhase = .spmDft →
    s.xw = x.map some → x.length = s.cfg.l →
    ∃ t, seqStep s = .next t ∧ t = { s with re := t.re, im := t.im, seqPhase := .spmMag } ∧
      t.re.length = s.cfg.l / 2 + 1 ∧ t.im.length = s.cfg.l / 2 + 1 ∧
      ∀ k, k ≤ s.cfg.l / 2 → ∃ a b : U64, t.re[k]? = some (some a) ∧ t.im[k]? = some (some b) ∧
        a.toInt = ∑ n ∈ Finset.range s.cfg.l,
          (x.getD n 0#16).toInt * (s.cfg.twc.getD ((n * k) % s.cfg.l) 0#16).toInt ∧
        b.toInt = -∑ n ∈ Finset.range s.cfg.l,
          (x.getD n 0#16).toInt * (s.cfg.tws.getD ((n * k) % s.cfg.l) 0#16).toInt ∧
        |a.toInt| ≤ 2 ^ 46 ∧ |b.toInt| ≤ 2 ^ 46

/-- R156: each magnitude is the floor of the length of its bin over 2^15, below 2^32 for the bins R154 allows. -/
def Obligations.MagnitudeIsFloorOfLength : Prop :=
  ∀ (s : State) (x y : List U64), s.specOk = true → s.cfg.spectralOk = true → s.seqPhase = .spmMag →
    s.re = x.map some → s.im = y.map some → x.length = s.cfg.l / 2 + 1 → y.length = s.cfg.l / 2 + 1 →
    (∀ v ∈ x ++ y, |v.toInt| ≤ 2 ^ 46) →
    ∃ t, seqStep s = .next t ∧ t = { s with mag := t.mag, seqPhase := .spmReduce } ∧
      t.mag.length = s.cfg.l / 2 + 1 ∧
      ∀ (k : Nat) (a b : U64), x[k]? = some a → y[k]? = some b → ∃ m : U64, t.mag[k]? = some (some m) ∧
        ((m.toNat : Int) * 2 ^ 15) ^ 2 ≤ a.toInt ^ 2 + b.toInt ^ 2 ∧
        a.toInt ^ 2 + b.toInt ^ 2 < (((m.toNat : Int) + 1) * 2 ^ 15) ^ 2 ∧ m.toNat < 2 ^ 32

/-- R158, R160: with REDUCE = PEAK each band `b` holds the largest magnitude of its bins `EDGES[b] .. EDGES[b+1] - 1`, 0 when it
has none, and below 2^32 for the magnitudes R156 allows. -/
def Obligations.PeakReduction : Prop :=
  ∀ (s : State) (x : List U64), s.specOk = true → s.cfg.spectralOk = true → s.seqPhase = .spmReduce →
    s.cfg.reduce = .peak → s.mag = x.map some → x.length = s.cfg.l / 2 + 1 →
    ∃ t, seqStep s = .next t ∧ t = { s with band := t.band, seqPhase := .spmNorm } ∧
      t.band.length = s.cfg.n ∧
      ∀ b, b < s.cfg.n → ∃ v : U64, t.band[b]? = some (some v) ∧
        (∀ (k : Nat) (m : U64), x[k]? = some m →
          s.cfg.edges.getD b 0 ≤ (k : Int) ∧ (k : Int) < s.cfg.edges.getD (b + 1) 0 → m.toNat ≤ v.toNat) ∧
        (v.toNat = 0 ∨ ∃ (k : Nat) (m : U64), x[k]? = some m ∧
          (s.cfg.edges.getD b 0 ≤ (k : Int) ∧ (k : Int) < s.cfg.edges.getD (b + 1) 0) ∧ m.toNat = v.toNat) ∧
        ((∀ m ∈ x, m.toNat < 2 ^ 32) → v.toNat < 2 ^ 32)

/-- R159, R160: with REDUCE = SUM each band `b` holds the sum of the magnitudes of its bins `EDGES[b] .. EDGES[b+1] - 1`, for the
magnitudes R156 allows. -/
def Obligations.SumReduction : Prop :=
  ∀ (s : State) (x : List U64), s.specOk = true → s.cfg.spectralOk = true → s.seqPhase = .spmReduce →
    s.cfg.reduce = .sum → s.mag = x.map some → x.length = s.cfg.l / 2 + 1 → (∀ m ∈ x, m.toNat < 2 ^ 32) →
    ∃ t, seqStep s = .next t ∧ t = { s with band := t.band, seqPhase := .spmNorm } ∧
      t.band.length = s.cfg.n ∧
      ∀ b, b < s.cfg.n → ∃ v : U64, t.band[b]? = some (some v) ∧
        v.toNat = ∑ k ∈ (Finset.range (s.cfg.l / 2 + 1)).filter (fun k : Nat =>
            s.cfg.edges.getD b 0 ≤ (k : Int) ∧ (k : Int) < s.cfg.edges.getD (b + 1) 0),
          (x.getD k 0#64).toNat ∧ v.toNat < 2 ^ 48

/-- R162: each intensity is `min(255, (BAND*255) div NORM_DEN)`, so a larger band value never gives a smaller one. -/
def Obligations.NormaliseScalesAndClamps : Prop :=
  ∀ (s : State) (x : List U64), s.specOk = true → s.cfg.spectralOk = true → s.seqPhase = .spmNorm →
    s.band = x.map some → x.length = s.cfg.n →
    ∃ t, seqStep s = .next t ∧ t = { s with inten := t.inten, seqPhase := .spmEmit 0 } ∧
      t.inten.length = s.cfg.n ∧
      (∀ (b : Nat) (v : U64), x[b]? = some v → ∃ y : Byte, t.inten[b]? = some (some y) ∧
        y.toNat = min 255 (v.toNat * 255 / s.cfg.normDen) ∧
        (s.cfg.normDen ≤ v.toNat → y.toNat = 255) ∧ (v.toNat = 0 → y.toNat = 0)) ∧
      (∀ (b c : Nat) (u v : U64) (y z : Byte), x[b]? = some u → x[c]? = some v → u.toNat ≤ v.toNat →
        t.inten[b]? = some (some y) → t.inten[c]? = some (some z) → y.toNat ≤ z.toNat)

/-- R164, R166: in SPM_EMIT(b) SPM writes cell `b` with its band colour and goes on, ignoring the response. -/
def Obligations.EmitWritesBandColour : Prop :=
  ∀ (s : State) (b : Nat) (v : Byte), Inv s → s.seqPhase = .spmEmit b → b < s.cfg.n →
    s.inten[b]? = some (some v) →
    ∃ t, seqStep s = .next t ∧
      t = { s with
        frame := t.frame, seqPhase := .spmEmit (b + 1), respLog := s.respLog ++ [(.spm, 0x8000000000000000#64)] } ∧
      t.frame[b]? = some ⟨if s.cfg.specMask.mr = 1 then v else 0#8,
        if s.cfg.specMask.mg = 1 then v else 0#8, if s.cfg.specMask.mb = 1 then v else 0#8⟩ ∧
      (∀ j, j ≠ b → t.frame[j]? = s.frame[j]?)

/-- R140, R166, R192: a whole pass at the operation level. With its `L` samples delivered, `L + N + 8` steps of SEQ take the pass
from SPM_ACQUIRE(0) to the boundary: the Frame is what the samples alone give, one frame of it is sent, and MODE, CUR_MODE
and the worker port are as before. -/
def Obligations.SpectralPassEndToEnd : Prop :=
  ∀ (s : State) (x : List Q15), Inv s → s.cfg.level = .operation → s.script = [] →
    s.seqPhase = .spmAcquire 0 → s.sampleQ = x → x.length = s.cfg.l →
    ∃ t, runSteps (s.cfg.l + s.cfg.n + 8) s = .next t ∧ t.seqPhase = .boundary ∧ t.grant = .none ∧
      t.frame = passColors s.cfg x ∧
      t.linkLog = s.linkLog ++ [frameBits s.cfg.wireOrder (passColors s.cfg x)] ∧
      t.mode = s.mode ∧ t.curMode = s.curMode ∧ t.cfg = s.cfg ∧ t.workerQ = s.workerQ ∧
      t.startLog = s.startLog ∧ t.refusals = s.refusals ∧ t.sampleQ = [] ∧ t.busy = false ∧
      t.btnSync = s.btnSync ∧ t.btnPrev = s.btnPrev ∧ t.specOk = s.specOk ∧ t.linkOut = false ∧
      t.respLog = s.respLog ++ List.replicate (s.cfg.n + 1) (.spm, 0x8000000000000000#64)

/-- R168 at the operation level, with no events to come and all the samples delivered (log entries 1 and 6): when every sample
of a pass is 0, the pass writes black to every cell and appends one frame of `24*N` zero bits. The count of steps is the model's
(log entries 14 and 24). -/
def Obligations.SilenceTurnsAllOff : Prop :=
  ∀ s : State, Inv s → s.cfg.level = .operation → s.script = [] → s.seqPhase = .spmAcquire 0 →
    s.sampleQ = List.replicate s.cfg.l 0#16 →
    ∃ t, runSteps (s.cfg.l + s.cfg.n + 8) s = .next t ∧
      t.frame = List.replicate s.cfg.n ⟨0#8, 0#8, 0#8⟩ ∧
      t.linkLog = s.linkLog ++ [List.replicate (24 * s.cfg.n) false]

/-! ### Endless runs and fairness (70_reset_and_hazards.md R254) -/

/-- R254: in an endless weakly fair run, from a state that meets the invariant, a boundary is followed by a dispatch that latches
MODE (R187), and without a reset input a message the running worker has waiting is taken (R190, R191, R100), whatever else
happens in between. That a message waits in a queue is log entry 12 (DESIGN CHOICE), and that a step of SEQ is enabled unless it
is a wait is log entry 23 (DEDUCED). -/
def Obligations.FairRunMakesProgress : Prop :=
  ∀ (e : Nat → Event) (σ : Nat → State), EndlessRun e σ → weaklyFair e σ → Inv (σ 0) →
    (∀ n, (σ n).seqPhase = .boundary →
      ∃ m, n ≤ m ∧ e m = .seq ∧ (σ m).seqPhase = .boundary ∧ (σ (m + 1)).curMode = (σ m).mode) ∧
    ((∀ n level, e n ≠ .reset level) → ∀ n x q, (σ n).seqPhase = .extRun →
      takeMessage (σ n).curMode (σ n).workerQ = some (x, q) →
      ∃ m q', n ≤ m ∧ e m = .seq ∧ takeMessage (σ n).curMode (σ m).workerQ = some (x, q') ∧
        (σ (m + 1)).workerQ = q')

/-- R63, R195, R229: with R210's hardware column (log entry 4) every stream of events is an endless run from a state that meets
the invariant, so no event need ever cease; and in every endless run without a reset input MODE has advanced, at each time and
whatever SEQ does, by the number of falling edges sampled so far, modulo NUM_MODES. -/
def Obligations.EndlessRunCountsEveryEdge : Prop :=
  (∀ (s : State) (e : Nat → Event), Inv s → s.cfg.check = .hardware →
    ∃ σ, σ 0 = s ∧ EndlessRun e σ) ∧
  (∀ (e : Nat → Event) (σ : Nat → State), EndlessRun e σ → Inv (σ 0) → (∀ n level, e n ≠ .reset level) →
    ∀ n, (σ n).mode.toNat =
      ((σ 0).mode.toNat + fallingEdges (σ 0).btnSync (firstEvents e n)) % (σ 0).cfg.numModes)

/-! ### Reset and configuration (70_reset_and_hazards.md) -/

/-- R51: the reset values, for every configuration and input level. R51 gives SER_RET no value; that it holds BOUNDARY is log
entry 29 (DESIGN CHOICE). -/
def Obligations.ResetValues : Prop :=
  ∀ (cfg : Config) (level : Bool), ∃ s, s = State.resetWith cfg level ∧ s.cfg = cfg ∧
    s.frame = List.replicate cfg.n ⟨0#8, 0#8, 0#8⟩ ∧ s.mode = 0#32 ∧ s.curMode = 0#32 ∧ s.grant = .none ∧
    s.specOk = cfg.spectralOk ∧ s.busy = false ∧ s.seqPhase = .boundary ∧ s.serPos = 0 ∧ s.serCnt = 0#32 ∧
    s.serBits = [] ∧ s.serRet = .boundary ∧ s.linkOut = false ∧ s.linkLog = [] ∧ s.btnSync = level ∧
    s.btnPrev = level ∧ (∀ v ∈ s.sb ++ s.xw, v = none) ∧ (∀ v ∈ s.re ++ s.im ++ s.mag ++ s.band, v = none) ∧
    (∀ v ∈ s.inten, v = none)

/-- R240, its spectral constraints: SPEC_OK is 1 exactly when all of them hold. -/
def Obligations.SpecOkIsTheSpectralCheck : Prop :=
  ∀ cfg : Config, cfg.spectralOk = true ↔
    (∃ m, 1 ≤ m ∧ m ≤ 16 ∧ cfg.l = 2 ^ m) ∧
    cfg.window.length = cfg.l ∧ cfg.twc.length = cfg.l ∧ cfg.tws.length = cfg.l ∧
    cfg.edges.length = cfg.n + 1 ∧ 0 ≤ cfg.edges.getD 0 0 ∧
    (∀ b, b < cfg.n → cfg.edges.getD b 0 ≤ cfg.edges.getD (b + 1) 0) ∧
    cfg.edges.getD cfg.n 0 ≤ ((cfg.l / 2 : Nat) : Int) ∧
    1 ≤ cfg.normDen ∧ cfg.normDen ≤ 2 ^ 48 ∧
    (cfg.specMask.mr = 0 ∨ cfg.specMask.mr = 1) ∧ (cfg.specMask.mg = 0 ∨ cfg.specMask.mg = 1) ∧
    (cfg.specMask.mb = 0 ∨ cfg.specMask.mb = 1)

/-- R240, its general constraints: a configuration that breaks one is refused, and only such a one (T_SAMPLE > 0 is DEDUCED
from R9 and R210, log entry 16). -/
def Obligations.BrokenConfigurationIsRefused : Prop :=
  ∀ s : State, step s = .refused (.configRefused s.cfg) ↔
    ¬(1 ≤ s.cfg.n ∧ s.cfg.n ≤ 2 ^ 31 - 1 ∧ 4 ≤ s.cfg.numModes ∧ s.cfg.numModes ≤ 2 ^ 32 - 1 ∧
      (s.cfg.wireOrder.first ≠ s.cfg.wireOrder.second ∧ s.cfg.wireOrder.first ≠ s.cfg.wireOrder.third ∧
        s.cfg.wireOrder.second ≠ s.cfg.wireOrder.third) ∧
      1 ≤ s.cfg.t0h ∧ 1 ≤ s.cfg.t0l ∧ 1 ≤ s.cfg.t1h ∧ 1 ≤ s.cfg.t1l ∧ 1 ≤ s.cfg.tReset ∧ 0 < s.cfg.fClk ∧
      0 < s.cfg.tSample ∧ s.cfg.t0h + s.cfg.t0l = s.cfg.t1h + s.cfg.t1l ∧ s.cfg.t0h < s.cfg.t1h)

/-- R9: no step changes the configuration. -/
def Obligations.ConfigurationNeverChanges : Prop :=
  ∀ s t : State, step s = .next t → t.cfg = s.cfg

/-! ### The invariant -/

/-- The invariant holds right after reset, for every conforming configuration and input level. -/
def Obligations.InvAtReset : Prop :=
  (∀ (cfg : Config) (level : Bool), cfg.conforming = true → Inv (State.resetWith cfg level)) ∧ Inv State.reset

/-- Every step keeps the invariant (R31, R35, R37, R40, R42, R45 to R50, R124). -/
def Obligations.StepKeepsInv : Prop :=
  ∀ s t : State, Inv s → step s = .next t → Inv t

/-- No fault and no ConfigRefused is reachable (R35, R48, R210): from a state that meets the invariant a step goes on, unless the
holder's oldest command is one the spec's own model refuses, when it ends in Refused(cmd) (R213, R217; log entry 4). -/
def Obligations.InvStopsOnlyOnRefusedCommand : Prop :=
  ∀ s : State, Inv s → (∃ t, step s = .next t) ∨
    (s.cfg.check = .refuse ∧ (seqTurn s).isSome = true ∧ s.seqPhase = .extRun ∧
      ∃ m w q, s.grant = .ext m ∧ takeMessage m s.workerQ = some (.cmd w, q) ∧
        (decodeCmd w).refusedByModel = true ∧ step s = .refused (.refusedCommand w))
end

