-- ==== Sys2Proof/Laws/Arith.lean ====
section
/-! SUPPORT. What the integer primitives of 00_scope.md R12 compute. -/

namespace Sys2Proof

/-- Each bit tried keeps the bracket `r^2 <= n < (r + 2^k)^2`. -/
theorem isqrtFrom_spec (n : Nat) :
    ∀ k r, r * r ≤ n → n < (r + 2 ^ k) * (r + 2 ^ k) →
      isqrtFrom n k r * isqrtFrom n k r ≤ n ∧ n < (isqrtFrom n k r + 1) * (isqrtFrom n k r + 1) := by
  intro k
  induction k with
  | zero => intro r h1 h2; simpa [isqrtFrom] using ⟨h1, h2⟩
  | succ k ih =>
    intro r h1 h2
    simp only [isqrtFrom]
    split
    · rename_i h
      exact ih _ h (by rw [pow_succ] at h2; convert h2 using 2 <;> ring)
    · rename_i h
      exact ih _ h1 (by omega)

/-- `isqrt n` is the largest `r` with `r * r <= n` (R12). -/
theorem isqrt_spec (n : Nat) : isqrt n * isqrt n ≤ n ∧ n < (isqrt n + 1) * (isqrt n + 1) := by
  refine isqrtFrom_spec n _ 0 (by simp) ?_
  have h : n < 2 ^ (n.log2 + 1) := Nat.lt_log2_self
  refine lt_of_lt_of_le h ?_
  rw [zero_add, ← pow_add]
  exact Nat.pow_le_pow_right (by decide) (by omega)

/-- The primitive agrees with the library's square root. -/
theorem isqrt_eq_sqrt (n : Nat) : isqrt n = n.sqrt := by
  obtain ⟨h1, h2⟩ := isqrt_spec n
  exact Nat.eq_sqrt.mpr ⟨h1, h2⟩

/-- `sat16` lands in the `s16` range. -/
theorem sat16_range (v : Int) : -32768 ≤ sat16 v ∧ sat16 v ≤ 32767 := by
  unfold sat16; omega

/-- `sat16` leaves an `s16` value alone. -/
theorem sat16_of_range {v : Int} (h1 : -32768 ≤ v) (h2 : v ≤ 32767) : sat16 v = v := by
  unfold sat16; omega

/-- An `s16` value survives its 16-bit word. -/
theorem ofInt16_toInt {v : Int} (h1 : -32768 ≤ v) (h2 : v ≤ 32767) : (BitVec.ofInt 16 v).toInt = v := by
  rw [BitVec.toInt_ofInt]
  exact Int.bmod_eq_of_le (by omega) (by omega)

/-- An `s64` value survives its 64-bit word. -/
theorem ofInt64_toInt {v : Int} (h1 : -(2 ^ 63) ≤ v) (h2 : v < 2 ^ 63) : (BitVec.ofInt 64 v).toInt = v := by
  rw [BitVec.toInt_ofInt]
  exact Int.bmod_eq_of_le (by omega) (by omega)

end Sys2Proof
end

