-- ==== Sys2Proof/Laws/Decode.lean ====
section
/-! SUPPORT. The fields of packed command words (30_encoding.md R81), bit by bit, and what each packed word decodes to. -/

namespace Sys2Proof

/-! ### Bits of packed words -/

theorem getLsbD_packIndexed (op : Byte) (idx : U32) (low : BitVec 24) (i : Nat) :
    (packIndexed op idx low).getLsbD i =
      if i < 24 then low.getLsbD i else if i < 56 then idx.getLsbD (i - 24) else op.getLsbD (i - 56) := by
  unfold packIndexed
  show (op ++ idx ++ low).getLsbD i = _
  simp only [BitVec.getLsbD_append]
  split
  · rfl
  · have e : i - 24 - 32 = i - 56 := by omega
    by_cases h : i < 56
    · simp [h, show i - 24 < 32 by omega]
    · simp [h, show ¬ i - 24 < 32 by omega, e]

theorem getLsbD_packPlain (op : Byte) (low : BitVec 56) (i : Nat) :
    (packPlain op low).getLsbD i = if i < 56 then low.getLsbD i else op.getLsbD (i - 56) := by
  unfold packPlain
  show (op ++ low).getLsbD i = _
  simp only [BitVec.getLsbD_append]

theorem getLsbD_rgb (r g b : Byte) (i : Nat) :
    (r ++ g ++ b : BitVec 24).getLsbD i =
      if i < 8 then b.getLsbD i else if i < 16 then g.getLsbD (i - 8) else r.getLsbD (i - 16) := by
  show (r ++ g ++ b).getLsbD i = _
  simp only [BitVec.getLsbD_append]
  split
  · rfl
  · have e : i - 8 - 8 = i - 16 := by omega
    by_cases h : i < 16
    · simp [h, show i - 8 < 8 by omega]
    · simp [h, show ¬ i - 8 < 8 by omega, e]

/-! ### Fields of packed words -/

theorem cmdOp_packIndexed (op : Byte) (idx : U32) (low : BitVec 24) : cmdOp (packIndexed op idx low) = op := by
  refine BitVec.eq_of_getLsbD_eq fun i hi => ?_
  simp [cmdOp, getLsbD_packIndexed, hi, show ¬ 56 + i < 24 by omega]

theorem cmdIndex_packIndexed (op : Byte) (idx : U32) (low : BitVec 24) :
    cmdIndex (packIndexed op idx low) = idx := by
  refine BitVec.eq_of_getLsbD_eq fun i hi => ?_
  simp [cmdIndex, getLsbD_packIndexed, hi, show 24 + i < 56 by omega]

theorem cmdLow24_packIndexed (op : Byte) (idx : U32) (low : BitVec 24) :
    cmdLow24 (packIndexed op idx low) = low := by
  refine BitVec.eq_of_getLsbD_eq fun i hi => ?_
  simp [cmdLow24, getLsbD_packIndexed, hi]

theorem cmdOp_packPlain (op : Byte) (low : BitVec 56) : cmdOp (packPlain op low) = op := by
  refine BitVec.eq_of_getLsbD_eq fun i hi => ?_
  simp [cmdOp, getLsbD_packPlain, hi]

theorem cmdLow56_packPlain (op : Byte) (low : BitVec 56) : cmdLow56 (packPlain op low) = low := by
  refine BitVec.eq_of_getLsbD_eq fun i hi => ?_
  simp [cmdLow56, getLsbD_packPlain, hi]

theorem cmdR_packIndexed (op : Byte) (idx : U32) (r g b : Byte) :
    cmdR (packIndexed op idx (r ++ g ++ b)) = r := by
  refine BitVec.eq_of_getLsbD_eq fun i hi => ?_
  simp only [cmdR, BitVec.getLsbD_extractLsb', hi, getLsbD_packIndexed, getLsbD_rgb]
  simp [show 16 + i < 24 by omega, show ¬ 16 + i < 8 by omega]

theorem cmdG_packIndexed (op : Byte) (idx : U32) (r g b : Byte) :
    cmdG (packIndexed op idx (r ++ g ++ b)) = g := by
  refine BitVec.eq_of_getLsbD_eq fun i hi => ?_
  simp only [cmdG, BitVec.getLsbD_extractLsb', hi, getLsbD_packIndexed, getLsbD_rgb]
  simp [show 8 + i < 24 by omega, show 8 + i < 16 by omega]

theorem cmdB_packIndexed (op : Byte) (idx : U32) (r g b : Byte) :
    cmdB (packIndexed op idx (r ++ g ++ b)) = b := by
  refine BitVec.eq_of_getLsbD_eq fun i hi => ?_
  simp only [cmdB, BitVec.getLsbD_extractLsb', hi, getLsbD_packIndexed, getLsbD_rgb]
  simp [show i < 24 by omega, hi]

/-! ### What packed words decode to (R84) -/

theorem decodeCmd_setcolor (idx : U32) (r g b : Byte) :
    decodeCmd (packIndexed 1#8 idx (r ++ g ++ b)) = .setcolor idx r g b := by
  simp [decodeCmd, cmdOp_packIndexed, cmdIndex_packIndexed, cmdR_packIndexed, cmdG_packIndexed, cmdB_packIndexed]

theorem decodeCmd_update (sbz : BitVec 56) : decodeCmd (packPlain 2#8 sbz) = .update sbz := by
  simp [decodeCmd, cmdOp_packPlain, cmdLow56_packPlain]

theorem decodeCmd_clear (sbz : BitVec 56) : decodeCmd (packPlain 3#8 sbz) = .clear sbz := by
  simp [decodeCmd, cmdOp_packPlain, cmdLow56_packPlain]

theorem decodeCmd_readcolor (idx : U32) (sbz : BitVec 24) :
    decodeCmd (packIndexed 4#8 idx sbz) = .readcolor idx sbz := by
  simp [decodeCmd, cmdOp_packIndexed, cmdIndex_packIndexed, cmdLow24_packIndexed]

theorem decodeCmd_readreg (id : U32) (sbz : BitVec 24) :
    decodeCmd (packIndexed 5#8 id sbz) = .readreg id sbz := by
  simp [decodeCmd, cmdOp_packIndexed, cmdIndex_packIndexed, cmdLow24_packIndexed]

theorem opDefined_iff (op : Byte) :
    opDefined op = true ↔ op = 1#8 ∨ op = 2#8 ∨ op = 3#8 ∨ op = 4#8 ∨ op = 5#8 := by
  simp [opDefined, or_assoc]

theorem decodeCmd_reserved (op : Byte) (payload : BitVec 56) (h : opDefined op = false) :
    decodeCmd (packPlain op payload) = .reserved op payload := by
  have h' : ¬ (op = 1#8 ∨ op = 2#8 ∨ op = 3#8 ∨ op = 4#8 ∨ op = 5#8) := by
    rw [← opDefined_iff]; simp [h]
  simp only [not_or] at h'
  obtain ⟨h1, h2, h3, h4, h5⟩ := h'
  simp [decodeCmd, cmdOp_packPlain, cmdLow56_packPlain, h1, h2, h3, h4, h5]

end Sys2Proof
end

