-- ==== Sys2Proof/Laws/State.lean ====
section
/-! SUPPORT. One lemma per field of State for each shared update, so that no later proof unfolds a record update. -/

namespace Sys2Proof.Machine

variable (s : State)

/-! ### respond -/

@[simp] theorem respond_cfg (w : U64) : (respond w s).cfg = s.cfg := rfl
@[simp] theorem respond_frame (w : U64) : (respond w s).frame = s.frame := rfl
@[simp] theorem respond_mode (w : U64) : (respond w s).mode = s.mode := rfl
@[simp] theorem respond_curMode (w : U64) : (respond w s).curMode = s.curMode := rfl
@[simp] theorem respond_grant (w : U64) : (respond w s).grant = s.grant := rfl
@[simp] theorem respond_specOk (w : U64) : (respond w s).specOk = s.specOk := rfl
@[simp] theorem respond_busy (w : U64) : (respond w s).busy = s.busy := rfl
@[simp] theorem respond_seqPhase (w : U64) : (respond w s).seqPhase = s.seqPhase := rfl
@[simp] theorem respond_serBits (w : U64) : (respond w s).serBits = s.serBits := rfl
@[simp] theorem respond_serPos (w : U64) : (respond w s).serPos = s.serPos := rfl
@[simp] theorem respond_serRet (w : U64) : (respond w s).serRet = s.serRet := rfl
@[simp] theorem respond_serCnt (w : U64) : (respond w s).serCnt = s.serCnt := rfl
@[simp] theorem respond_serWraps (w : U64) : (respond w s).serWraps = s.serWraps := rfl
@[simp] theorem respond_serSub (w : U64) : (respond w s).serSub = s.serSub := rfl
@[simp] theorem respond_linkOut (w : U64) : (respond w s).linkOut = s.linkOut := rfl
@[simp] theorem respond_linkLog (w : U64) : (respond w s).linkLog = s.linkLog := rfl
@[simp] theorem respond_btnSync (w : U64) : (respond w s).btnSync = s.btnSync := rfl
@[simp] theorem respond_btnPrev (w : U64) : (respond w s).btnPrev = s.btnPrev := rfl
@[simp] theorem respond_sb (w : U64) : (respond w s).sb = s.sb := rfl
@[simp] theorem respond_xw (w : U64) : (respond w s).xw = s.xw := rfl
@[simp] theorem respond_re (w : U64) : (respond w s).re = s.re := rfl
@[simp] theorem respond_im (w : U64) : (respond w s).im = s.im := rfl
@[simp] theorem respond_mag (w : U64) : (respond w s).mag = s.mag := rfl
@[simp] theorem respond_band (w : U64) : (respond w s).band = s.band := rfl
@[simp] theorem respond_inten (w : U64) : (respond w s).inten = s.inten := rfl
@[simp] theorem respond_sampleQ (w : U64) : (respond w s).sampleQ = s.sampleQ := rfl
@[simp] theorem respond_workerQ (w : U64) : (respond w s).workerQ = s.workerQ := rfl
@[simp] theorem respond_respLog (w : U64) : (respond w s).respLog = s.respLog ++ [(s.grant, w)] := rfl
@[simp] theorem respond_startLog (w : U64) : (respond w s).startLog = s.startLog := rfl
@[simp] theorem respond_spmResp (w : U64) : (respond w s).spmResp = if s.grant = .spm then some w else s.spmResp := rfl
@[simp] theorem respond_refusals (w : U64) : (respond w s).refusals = s.refusals := rfl
@[simp] theorem respond_script (w : U64) : (respond w s).script = s.script := rfl

/-! ### blackFrame -/

@[simp] theorem blackFrame_cfg : (blackFrame s).cfg = s.cfg := rfl
@[simp] theorem blackFrame_frame : (blackFrame s).frame = List.replicate s.cfg.n Color.black := rfl
@[simp] theorem blackFrame_mode : (blackFrame s).mode = s.mode := rfl
@[simp] theorem blackFrame_curMode : (blackFrame s).curMode = s.curMode := rfl
@[simp] theorem blackFrame_grant : (blackFrame s).grant = s.grant := rfl
@[simp] theorem blackFrame_specOk : (blackFrame s).specOk = s.specOk := rfl
@[simp] theorem blackFrame_busy : (blackFrame s).busy = s.busy := rfl
@[simp] theorem blackFrame_seqPhase : (blackFrame s).seqPhase = s.seqPhase := rfl
@[simp] theorem blackFrame_serBits : (blackFrame s).serBits = s.serBits := rfl
@[simp] theorem blackFrame_serPos : (blackFrame s).serPos = s.serPos := rfl
@[simp] theorem blackFrame_serRet : (blackFrame s).serRet = s.serRet := rfl
@[simp] theorem blackFrame_serCnt : (blackFrame s).serCnt = s.serCnt := rfl
@[simp] theorem blackFrame_serWraps : (blackFrame s).serWraps = s.serWraps := rfl
@[simp] theorem blackFrame_serSub : (blackFrame s).serSub = s.serSub := rfl
@[simp] theorem blackFrame_linkOut : (blackFrame s).linkOut = s.linkOut := rfl
@[simp] theorem blackFrame_linkLog : (blackFrame s).linkLog = s.linkLog := rfl
@[simp] theorem blackFrame_btnSync : (blackFrame s).btnSync = s.btnSync := rfl
@[simp] theorem blackFrame_btnPrev : (blackFrame s).btnPrev = s.btnPrev := rfl
@[simp] theorem blackFrame_sb : (blackFrame s).sb = s.sb := rfl
@[simp] theorem blackFrame_xw : (blackFrame s).xw = s.xw := rfl
@[simp] theorem blackFrame_re : (blackFrame s).re = s.re := rfl
@[simp] theorem blackFrame_im : (blackFrame s).im = s.im := rfl
@[simp] theorem blackFrame_mag : (blackFrame s).mag = s.mag := rfl
@[simp] theorem blackFrame_band : (blackFrame s).band = s.band := rfl
@[simp] theorem blackFrame_inten : (blackFrame s).inten = s.inten := rfl
@[simp] theorem blackFrame_sampleQ : (blackFrame s).sampleQ = s.sampleQ := rfl
@[simp] theorem blackFrame_workerQ : (blackFrame s).workerQ = s.workerQ := rfl
@[simp] theorem blackFrame_respLog : (blackFrame s).respLog = s.respLog := rfl
@[simp] theorem blackFrame_startLog : (blackFrame s).startLog = s.startLog := rfl
@[simp] theorem blackFrame_spmResp : (blackFrame s).spmResp = s.spmResp := rfl
@[simp] theorem blackFrame_refusals : (blackFrame s).refusals = s.refusals := rfl
@[simp] theorem blackFrame_script : (blackFrame s).script = s.script := rfl

/-! ### quantumEnd -/

@[simp] theorem quantumEnd_cfg : (quantumEnd s).cfg = s.cfg := rfl
@[simp] theorem quantumEnd_frame : (quantumEnd s).frame = s.frame := rfl
@[simp] theorem quantumEnd_mode : (quantumEnd s).mode = s.mode := rfl
@[simp] theorem quantumEnd_curMode : (quantumEnd s).curMode = s.curMode := rfl
@[simp] theorem quantumEnd_grant : (quantumEnd s).grant = .none := rfl
@[simp] theorem quantumEnd_specOk : (quantumEnd s).specOk = s.specOk := rfl
@[simp] theorem quantumEnd_busy : (quantumEnd s).busy = s.busy := rfl
@[simp] theorem quantumEnd_seqPhase : (quantumEnd s).seqPhase = .boundary := rfl
@[simp] theorem quantumEnd_serBits : (quantumEnd s).serBits = s.serBits := rfl
@[simp] theorem quantumEnd_serPos : (quantumEnd s).serPos = s.serPos := rfl
@[simp] theorem quantumEnd_serRet : (quantumEnd s).serRet = s.serRet := rfl
@[simp] theorem quantumEnd_serCnt : (quantumEnd s).serCnt = s.serCnt := rfl
@[simp] theorem quantumEnd_serWraps : (quantumEnd s).serWraps = s.serWraps := rfl
@[simp] theorem quantumEnd_serSub : (quantumEnd s).serSub = s.serSub := rfl
@[simp] theorem quantumEnd_linkOut : (quantumEnd s).linkOut = s.linkOut := rfl
@[simp] theorem quantumEnd_linkLog : (quantumEnd s).linkLog = s.linkLog := rfl
@[simp] theorem quantumEnd_btnSync : (quantumEnd s).btnSync = s.btnSync := rfl
@[simp] theorem quantumEnd_btnPrev : (quantumEnd s).btnPrev = s.btnPrev := rfl
@[simp] theorem quantumEnd_sb : (quantumEnd s).sb = s.sb := rfl
@[simp] theorem quantumEnd_xw : (quantumEnd s).xw = s.xw := rfl
@[simp] theorem quantumEnd_re : (quantumEnd s).re = s.re := rfl
@[simp] theorem quantumEnd_im : (quantumEnd s).im = s.im := rfl
@[simp] theorem quantumEnd_mag : (quantumEnd s).mag = s.mag := rfl
@[simp] theorem quantumEnd_band : (quantumEnd s).band = s.band := rfl
@[simp] theorem quantumEnd_inten : (quantumEnd s).inten = s.inten := rfl
@[simp] theorem quantumEnd_sampleQ : (quantumEnd s).sampleQ = s.sampleQ := rfl
@[simp] theorem quantumEnd_workerQ : (quantumEnd s).workerQ = s.workerQ := rfl
@[simp] theorem quantumEnd_respLog : (quantumEnd s).respLog = s.respLog := rfl
@[simp] theorem quantumEnd_startLog : (quantumEnd s).startLog = s.startLog := rfl
@[simp] theorem quantumEnd_spmResp : (quantumEnd s).spmResp = s.spmResp := rfl
@[simp] theorem quantumEnd_refusals : (quantumEnd s).refusals = s.refusals := rfl
@[simp] theorem quantumEnd_script : (quantumEnd s).script = s.script := rfl

/-! ### startExternal -/

@[simp] theorem startExternal_cfg (m : U32) : (startExternal m s).cfg = s.cfg := rfl
@[simp] theorem startExternal_frame (m : U32) : (startExternal m s).frame = s.frame := rfl
@[simp] theorem startExternal_mode (m : U32) : (startExternal m s).mode = s.mode := rfl
@[simp] theorem startExternal_curMode (m : U32) : (startExternal m s).curMode = s.curMode := rfl
@[simp] theorem startExternal_grant (m : U32) : (startExternal m s).grant = .ext m := rfl
@[simp] theorem startExternal_specOk (m : U32) : (startExternal m s).specOk = s.specOk := rfl
@[simp] theorem startExternal_busy (m : U32) : (startExternal m s).busy = s.busy := rfl
@[simp] theorem startExternal_seqPhase (m : U32) : (startExternal m s).seqPhase = .extRun := rfl
@[simp] theorem startExternal_serBits (m : U32) : (startExternal m s).serBits = s.serBits := rfl
@[simp] theorem startExternal_serPos (m : U32) : (startExternal m s).serPos = s.serPos := rfl
@[simp] theorem startExternal_serRet (m : U32) : (startExternal m s).serRet = s.serRet := rfl
@[simp] theorem startExternal_serCnt (m : U32) : (startExternal m s).serCnt = s.serCnt := rfl
@[simp] theorem startExternal_serWraps (m : U32) : (startExternal m s).serWraps = s.serWraps := rfl
@[simp] theorem startExternal_serSub (m : U32) : (startExternal m s).serSub = s.serSub := rfl
@[simp] theorem startExternal_linkOut (m : U32) : (startExternal m s).linkOut = s.linkOut := rfl
@[simp] theorem startExternal_linkLog (m : U32) : (startExternal m s).linkLog = s.linkLog := rfl
@[simp] theorem startExternal_btnSync (m : U32) : (startExternal m s).btnSync = s.btnSync := rfl
@[simp] theorem startExternal_btnPrev (m : U32) : (startExternal m s).btnPrev = s.btnPrev := rfl
@[simp] theorem startExternal_sb (m : U32) : (startExternal m s).sb = s.sb := rfl
@[simp] theorem startExternal_xw (m : U32) : (startExternal m s).xw = s.xw := rfl
@[simp] theorem startExternal_re (m : U32) : (startExternal m s).re = s.re := rfl
@[simp] theorem startExternal_im (m : U32) : (startExternal m s).im = s.im := rfl
@[simp] theorem startExternal_mag (m : U32) : (startExternal m s).mag = s.mag := rfl
@[simp] theorem startExternal_band (m : U32) : (startExternal m s).band = s.band := rfl
@[simp] theorem startExternal_inten (m : U32) : (startExternal m s).inten = s.inten := rfl
@[simp] theorem startExternal_sampleQ (m : U32) : (startExternal m s).sampleQ = s.sampleQ := rfl
@[simp] theorem startExternal_workerQ (m : U32) : (startExternal m s).workerQ = s.workerQ := rfl
@[simp] theorem startExternal_respLog (m : U32) : (startExternal m s).respLog = s.respLog := rfl
@[simp] theorem startExternal_startLog (m : U32) : (startExternal m s).startLog = s.startLog ++ [m] := rfl
@[simp] theorem startExternal_spmResp (m : U32) : (startExternal m s).spmResp = s.spmResp := rfl
@[simp] theorem startExternal_refusals (m : U32) : (startExternal m s).refusals = s.refusals := rfl
@[simp] theorem startExternal_script (m : U32) : (startExternal m s).script = s.script := rfl

/-! ### noteRefusal -/

@[simp] theorem noteRefusal_cfg (w : U64) : (noteRefusal w s).cfg = s.cfg := rfl
@[simp] theorem noteRefusal_frame (w : U64) : (noteRefusal w s).frame = s.frame := rfl
@[simp] theorem noteRefusal_mode (w : U64) : (noteRefusal w s).mode = s.mode := rfl
@[simp] theorem noteRefusal_curMode (w : U64) : (noteRefusal w s).curMode = s.curMode := rfl
@[simp] theorem noteRefusal_grant (w : U64) : (noteRefusal w s).grant = s.grant := rfl
@[simp] theorem noteRefusal_specOk (w : U64) : (noteRefusal w s).specOk = s.specOk := rfl
@[simp] theorem noteRefusal_busy (w : U64) : (noteRefusal w s).busy = s.busy := rfl
@[simp] theorem noteRefusal_seqPhase (w : U64) : (noteRefusal w s).seqPhase = s.seqPhase := rfl
@[simp] theorem noteRefusal_serBits (w : U64) : (noteRefusal w s).serBits = s.serBits := rfl
@[simp] theorem noteRefusal_serPos (w : U64) : (noteRefusal w s).serPos = s.serPos := rfl
@[simp] theorem noteRefusal_serRet (w : U64) : (noteRefusal w s).serRet = s.serRet := rfl
@[simp] theorem noteRefusal_serCnt (w : U64) : (noteRefusal w s).serCnt = s.serCnt := rfl
@[simp] theorem noteRefusal_serWraps (w : U64) : (noteRefusal w s).serWraps = s.serWraps := rfl
@[simp] theorem noteRefusal_serSub (w : U64) : (noteRefusal w s).serSub = s.serSub := rfl
@[simp] theorem noteRefusal_linkOut (w : U64) : (noteRefusal w s).linkOut = s.linkOut := rfl
@[simp] theorem noteRefusal_linkLog (w : U64) : (noteRefusal w s).linkLog = s.linkLog := rfl
@[simp] theorem noteRefusal_btnSync (w : U64) : (noteRefusal w s).btnSync = s.btnSync := rfl
@[simp] theorem noteRefusal_btnPrev (w : U64) : (noteRefusal w s).btnPrev = s.btnPrev := rfl
@[simp] theorem noteRefusal_sb (w : U64) : (noteRefusal w s).sb = s.sb := rfl
@[simp] theorem noteRefusal_xw (w : U64) : (noteRefusal w s).xw = s.xw := rfl
@[simp] theorem noteRefusal_re (w : U64) : (noteRefusal w s).re = s.re := rfl
@[simp] theorem noteRefusal_im (w : U64) : (noteRefusal w s).im = s.im := rfl
@[simp] theorem noteRefusal_mag (w : U64) : (noteRefusal w s).mag = s.mag := rfl
@[simp] theorem noteRefusal_band (w : U64) : (noteRefusal w s).band = s.band := rfl
@[simp] theorem noteRefusal_inten (w : U64) : (noteRefusal w s).inten = s.inten := rfl
@[simp] theorem noteRefusal_sampleQ (w : U64) : (noteRefusal w s).sampleQ = s.sampleQ := rfl
@[simp] theorem noteRefusal_workerQ (w : U64) : (noteRefusal w s).workerQ = s.workerQ := rfl
@[simp] theorem noteRefusal_respLog (w : U64) : (noteRefusal w s).respLog = s.respLog := rfl
@[simp] theorem noteRefusal_startLog (w : U64) : (noteRefusal w s).startLog = s.startLog := rfl
@[simp] theorem noteRefusal_spmResp (w : U64) : (noteRefusal w s).spmResp = s.spmResp := rfl
@[simp] theorem noteRefusal_refusals (w : U64) :
    (noteRefusal w s).refusals = if (decodeCmd w).refusedByModel then s.refusals ++ [w] else s.refusals := rfl
@[simp] theorem noteRefusal_script (w : U64) : (noteRefusal w s).script = s.script := rfl

/-! ### startFrame -/

@[simp] theorem startFrame_cfg : (startFrame s).cfg = s.cfg := rfl
@[simp] theorem startFrame_frame : (startFrame s).frame = s.frame := rfl
@[simp] theorem startFrame_mode : (startFrame s).mode = s.mode := rfl
@[simp] theorem startFrame_curMode : (startFrame s).curMode = s.curMode := rfl
@[simp] theorem startFrame_grant : (startFrame s).grant = s.grant := rfl
@[simp] theorem startFrame_specOk : (startFrame s).specOk = s.specOk := rfl
@[simp] theorem startFrame_busy : (startFrame s).busy = true := rfl
@[simp] theorem startFrame_seqPhase : (startFrame s).seqPhase = .ser 0 := rfl
@[simp] theorem startFrame_serBits : (startFrame s).serBits = frameBits s.cfg.wireOrder s.frame := rfl
@[simp] theorem startFrame_serPos : (startFrame s).serPos = 0 := rfl
@[simp] theorem startFrame_serRet : (startFrame s).serRet = s.seqPhase := rfl
@[simp] theorem startFrame_serCnt : (startFrame s).serCnt = 0#32 := rfl
@[simp] theorem startFrame_serWraps : (startFrame s).serWraps = 0 := rfl
@[simp] theorem startFrame_serSub : (startFrame s).serSub = .high := rfl
@[simp] theorem startFrame_linkOut : (startFrame s).linkOut = true := rfl
@[simp] theorem startFrame_linkLog : (startFrame s).linkLog = s.linkLog := rfl
@[simp] theorem startFrame_btnSync : (startFrame s).btnSync = s.btnSync := rfl
@[simp] theorem startFrame_btnPrev : (startFrame s).btnPrev = s.btnPrev := rfl
@[simp] theorem startFrame_sb : (startFrame s).sb = s.sb := rfl
@[simp] theorem startFrame_xw : (startFrame s).xw = s.xw := rfl
@[simp] theorem startFrame_re : (startFrame s).re = s.re := rfl
@[simp] theorem startFrame_im : (startFrame s).im = s.im := rfl
@[simp] theorem startFrame_mag : (startFrame s).mag = s.mag := rfl
@[simp] theorem startFrame_band : (startFrame s).band = s.band := rfl
@[simp] theorem startFrame_inten : (startFrame s).inten = s.inten := rfl
@[simp] theorem startFrame_sampleQ : (startFrame s).sampleQ = s.sampleQ := rfl
@[simp] theorem startFrame_workerQ : (startFrame s).workerQ = s.workerQ := rfl
@[simp] theorem startFrame_respLog : (startFrame s).respLog = s.respLog := rfl
@[simp] theorem startFrame_startLog : (startFrame s).startLog = s.startLog := rfl
@[simp] theorem startFrame_spmResp : (startFrame s).spmResp = s.spmResp := rfl
@[simp] theorem startFrame_refusals : (startFrame s).refusals = s.refusals := rfl
@[simp] theorem startFrame_script : (startFrame s).script = s.script := rfl

/-! ### sentFrame -/

@[simp] theorem sentFrame_cfg : (sentFrame s).cfg = s.cfg := rfl
@[simp] theorem sentFrame_frame : (sentFrame s).frame = s.frame := rfl
@[simp] theorem sentFrame_mode : (sentFrame s).mode = s.mode := rfl
@[simp] theorem sentFrame_curMode : (sentFrame s).curMode = s.curMode := rfl
@[simp] theorem sentFrame_grant : (sentFrame s).grant = s.grant := rfl
@[simp] theorem sentFrame_specOk : (sentFrame s).specOk = s.specOk := rfl
@[simp] theorem sentFrame_busy : (sentFrame s).busy = s.busy := rfl
@[simp] theorem sentFrame_seqPhase : (sentFrame s).seqPhase = .ser s.serBits.length := rfl
@[simp] theorem sentFrame_serBits : (sentFrame s).serBits = s.serBits := rfl
@[simp] theorem sentFrame_serPos : (sentFrame s).serPos = s.serBits.length := rfl
@[simp] theorem sentFrame_serRet : (sentFrame s).serRet = s.serRet := rfl
@[simp] theorem sentFrame_serCnt : (sentFrame s).serCnt = 0#32 := rfl
@[simp] theorem sentFrame_serWraps : (sentFrame s).serWraps = 0 := rfl
@[simp] theorem sentFrame_serSub : (sentFrame s).serSub = .gap := rfl
@[simp] theorem sentFrame_linkOut : (sentFrame s).linkOut = false := rfl
@[simp] theorem sentFrame_linkLog : (sentFrame s).linkLog = s.linkLog := rfl
@[simp] theorem sentFrame_btnSync : (sentFrame s).btnSync = s.btnSync := rfl
@[simp] theorem sentFrame_btnPrev : (sentFrame s).btnPrev = s.btnPrev := rfl
@[simp] theorem sentFrame_sb : (sentFrame s).sb = s.sb := rfl
@[simp] theorem sentFrame_xw : (sentFrame s).xw = s.xw := rfl
@[simp] theorem sentFrame_re : (sentFrame s).re = s.re := rfl
@[simp] theorem sentFrame_im : (sentFrame s).im = s.im := rfl
@[simp] theorem sentFrame_mag : (sentFrame s).mag = s.mag := rfl
@[simp] theorem sentFrame_band : (sentFrame s).band = s.band := rfl
@[simp] theorem sentFrame_inten : (sentFrame s).inten = s.inten := rfl
@[simp] theorem sentFrame_sampleQ : (sentFrame s).sampleQ = s.sampleQ := rfl
@[simp] theorem sentFrame_workerQ : (sentFrame s).workerQ = s.workerQ := rfl
@[simp] theorem sentFrame_respLog : (sentFrame s).respLog = s.respLog := rfl
@[simp] theorem sentFrame_startLog : (sentFrame s).startLog = s.startLog := rfl
@[simp] theorem sentFrame_spmResp : (sentFrame s).spmResp = s.spmResp := rfl
@[simp] theorem sentFrame_refusals : (sentFrame s).refusals = s.refusals := rfl
@[simp] theorem sentFrame_script : (sentFrame s).script = s.script := rfl

/-! ### serTick -/

@[simp] theorem serTick_cfg : (serTick s).cfg = s.cfg := rfl
@[simp] theorem serTick_frame : (serTick s).frame = s.frame := rfl
@[simp] theorem serTick_mode : (serTick s).mode = s.mode := rfl
@[simp] theorem serTick_curMode : (serTick s).curMode = s.curMode := rfl
@[simp] theorem serTick_grant : (serTick s).grant = s.grant := rfl
@[simp] theorem serTick_specOk : (serTick s).specOk = s.specOk := rfl
@[simp] theorem serTick_busy : (serTick s).busy = s.busy := rfl
@[simp] theorem serTick_seqPhase : (serTick s).seqPhase = s.seqPhase := rfl
@[simp] theorem serTick_serBits : (serTick s).serBits = s.serBits := rfl
@[simp] theorem serTick_serPos : (serTick s).serPos = s.serPos := rfl
@[simp] theorem serTick_serRet : (serTick s).serRet = s.serRet := rfl
@[simp] theorem serTick_serSub : (serTick s).serSub = s.serSub := rfl
@[simp] theorem serTick_linkOut : (serTick s).linkOut = s.linkOut := rfl
@[simp] theorem serTick_linkLog : (serTick s).linkLog = s.linkLog := rfl
@[simp] theorem serTick_btnSync : (serTick s).btnSync = s.btnSync := rfl
@[simp] theorem serTick_btnPrev : (serTick s).btnPrev = s.btnPrev := rfl
@[simp] theorem serTick_sb : (serTick s).sb = s.sb := rfl
@[simp] theorem serTick_xw : (serTick s).xw = s.xw := rfl
@[simp] theorem serTick_re : (serTick s).re = s.re := rfl
@[simp] theorem serTick_im : (serTick s).im = s.im := rfl
@[simp] theorem serTick_mag : (serTick s).mag = s.mag := rfl
@[simp] theorem serTick_band : (serTick s).band = s.band := rfl
@[simp] theorem serTick_inten : (serTick s).inten = s.inten := rfl
@[simp] theorem serTick_sampleQ : (serTick s).sampleQ = s.sampleQ := rfl
@[simp] theorem serTick_workerQ : (serTick s).workerQ = s.workerQ := rfl
@[simp] theorem serTick_respLog : (serTick s).respLog = s.respLog := rfl
@[simp] theorem serTick_startLog : (serTick s).startLog = s.startLog := rfl
@[simp] theorem serTick_spmResp : (serTick s).spmResp = s.spmResp := rfl
@[simp] theorem serTick_refusals : (serTick s).refusals = s.refusals := rfl
@[simp] theorem serTick_script : (serTick s).script = s.script := rfl

/-! ### startGap -/

@[simp] theorem startGap_cfg : (startGap s).cfg = s.cfg := rfl
@[simp] theorem startGap_frame : (startGap s).frame = s.frame := rfl
@[simp] theorem startGap_mode : (startGap s).mode = s.mode := rfl
@[simp] theorem startGap_curMode : (startGap s).curMode = s.curMode := rfl
@[simp] theorem startGap_grant : (startGap s).grant = s.grant := rfl
@[simp] theorem startGap_specOk : (startGap s).specOk = s.specOk := rfl
@[simp] theorem startGap_busy : (startGap s).busy = s.busy := rfl
@[simp] theorem startGap_seqPhase : (startGap s).seqPhase = s.seqPhase := rfl
@[simp] theorem startGap_serBits : (startGap s).serBits = s.serBits := rfl
@[simp] theorem startGap_serPos : (startGap s).serPos = s.serPos := rfl
@[simp] theorem startGap_serRet : (startGap s).serRet = s.serRet := rfl
@[simp] theorem startGap_serCnt : (startGap s).serCnt = 0#32 := rfl
@[simp] theorem startGap_serWraps : (startGap s).serWraps = 0 := rfl
@[simp] theorem startGap_serSub : (startGap s).serSub = .gap := rfl
@[simp] theorem startGap_linkOut : (startGap s).linkOut = false := rfl
@[simp] theorem startGap_linkLog : (startGap s).linkLog = s.linkLog := rfl
@[simp] theorem startGap_btnSync : (startGap s).btnSync = s.btnSync := rfl
@[simp] theorem startGap_btnPrev : (startGap s).btnPrev = s.btnPrev := rfl
@[simp] theorem startGap_sb : (startGap s).sb = s.sb := rfl
@[simp] theorem startGap_xw : (startGap s).xw = s.xw := rfl
@[simp] theorem startGap_re : (startGap s).re = s.re := rfl
@[simp] theorem startGap_im : (startGap s).im = s.im := rfl
@[simp] theorem startGap_mag : (startGap s).mag = s.mag := rfl
@[simp] theorem startGap_band : (startGap s).band = s.band := rfl
@[simp] theorem startGap_inten : (startGap s).inten = s.inten := rfl
@[simp] theorem startGap_sampleQ : (startGap s).sampleQ = s.sampleQ := rfl
@[simp] theorem startGap_workerQ : (startGap s).workerQ = s.workerQ := rfl
@[simp] theorem startGap_respLog : (startGap s).respLog = s.respLog := rfl
@[simp] theorem startGap_startLog : (startGap s).startLog = s.startLog := rfl
@[simp] theorem startGap_spmResp : (startGap s).spmResp = s.spmResp := rfl
@[simp] theorem startGap_refusals : (startGap s).refusals = s.refusals := rfl
@[simp] theorem startGap_script : (startGap s).script = s.script := rfl

/-! ### completeFrame -/

@[simp] theorem completeFrame_cfg : (completeFrame s).cfg = s.cfg := rfl
@[simp] theorem completeFrame_frame : (completeFrame s).frame = s.frame := rfl
@[simp] theorem completeFrame_mode : (completeFrame s).mode = s.mode := rfl
@[simp] theorem completeFrame_curMode : (completeFrame s).curMode = s.curMode := rfl
@[simp] theorem completeFrame_grant : (completeFrame s).grant = s.grant := rfl
@[simp] theorem completeFrame_specOk : (completeFrame s).specOk = s.specOk := rfl
@[simp] theorem completeFrame_busy : (completeFrame s).busy = false := rfl
@[simp] theorem completeFrame_seqPhase : (completeFrame s).seqPhase = s.serRet := rfl
@[simp] theorem completeFrame_serBits : (completeFrame s).serBits = s.serBits := rfl
@[simp] theorem completeFrame_serPos : (completeFrame s).serPos = s.serPos := rfl
@[simp] theorem completeFrame_serRet : (completeFrame s).serRet = s.serRet := rfl
@[simp] theorem completeFrame_serCnt : (completeFrame s).serCnt = 0#32 := rfl
@[simp] theorem completeFrame_serWraps : (completeFrame s).serWraps = 0 := rfl
@[simp] theorem completeFrame_serSub : (completeFrame s).serSub = s.serSub := rfl
@[simp] theorem completeFrame_linkOut : (completeFrame s).linkOut = s.linkOut := rfl
@[simp] theorem completeFrame_linkLog : (completeFrame s).linkLog = s.linkLog ++ [s.serBits] := rfl
@[simp] theorem completeFrame_btnSync : (completeFrame s).btnSync = s.btnSync := rfl
@[simp] theorem completeFrame_btnPrev : (completeFrame s).btnPrev = s.btnPrev := rfl
@[simp] theorem completeFrame_sb : (completeFrame s).sb = s.sb := rfl
@[simp] theorem completeFrame_xw : (completeFrame s).xw = s.xw := rfl
@[simp] theorem completeFrame_re : (completeFrame s).re = s.re := rfl
@[simp] theorem completeFrame_im : (completeFrame s).im = s.im := rfl
@[simp] theorem completeFrame_mag : (completeFrame s).mag = s.mag := rfl
@[simp] theorem completeFrame_band : (completeFrame s).band = s.band := rfl
@[simp] theorem completeFrame_inten : (completeFrame s).inten = s.inten := rfl
@[simp] theorem completeFrame_sampleQ : (completeFrame s).sampleQ = s.sampleQ := rfl
@[simp] theorem completeFrame_workerQ : (completeFrame s).workerQ = s.workerQ := rfl
@[simp] theorem completeFrame_respLog : (completeFrame s).respLog = s.respLog ++ [(s.grant, ackWord)] := rfl
@[simp] theorem completeFrame_startLog : (completeFrame s).startLog = s.startLog := rfl
@[simp] theorem completeFrame_spmResp : (completeFrame s).spmResp = if s.grant = .spm then some ackWord else s.spmResp := rfl
@[simp] theorem completeFrame_refusals : (completeFrame s).refusals = s.refusals := rfl
@[simp] theorem completeFrame_script : (completeFrame s).script = s.script := rfl

/-! ### latchMode -/

@[simp] theorem latchMode_cfg : (latchMode s).cfg = s.cfg := rfl
@[simp] theorem latchMode_frame : (latchMode s).frame = s.frame := rfl
@[simp] theorem latchMode_mode : (latchMode s).mode = s.mode := rfl
@[simp] theorem latchMode_curMode : (latchMode s).curMode = s.mode := rfl
@[simp] theorem latchMode_grant : (latchMode s).grant = s.grant := rfl
@[simp] theorem latchMode_specOk : (latchMode s).specOk = s.specOk := rfl
@[simp] theorem latchMode_busy : (latchMode s).busy = s.busy := rfl
@[simp] theorem latchMode_seqPhase : (latchMode s).seqPhase = s.seqPhase := rfl
@[simp] theorem latchMode_serBits : (latchMode s).serBits = s.serBits := rfl
@[simp] theorem latchMode_serPos : (latchMode s).serPos = s.serPos := rfl
@[simp] theorem latchMode_serRet : (latchMode s).serRet = s.serRet := rfl
@[simp] theorem latchMode_serCnt : (latchMode s).serCnt = s.serCnt := rfl
@[simp] theorem latchMode_serWraps : (latchMode s).serWraps = s.serWraps := rfl
@[simp] theorem latchMode_serSub : (latchMode s).serSub = s.serSub := rfl
@[simp] theorem latchMode_linkOut : (latchMode s).linkOut = s.linkOut := rfl
@[simp] theorem latchMode_linkLog : (latchMode s).linkLog = s.linkLog := rfl
@[simp] theorem latchMode_btnSync : (latchMode s).btnSync = s.btnSync := rfl
@[simp] theorem latchMode_btnPrev : (latchMode s).btnPrev = s.btnPrev := rfl
@[simp] theorem latchMode_sb : (latchMode s).sb = s.sb := rfl
@[simp] theorem latchMode_xw : (latchMode s).xw = s.xw := rfl
@[simp] theorem latchMode_re : (latchMode s).re = s.re := rfl
@[simp] theorem latchMode_im : (latchMode s).im = s.im := rfl
@[simp] theorem latchMode_mag : (latchMode s).mag = s.mag := rfl
@[simp] theorem latchMode_band : (latchMode s).band = s.band := rfl
@[simp] theorem latchMode_inten : (latchMode s).inten = s.inten := rfl
@[simp] theorem latchMode_sampleQ : (latchMode s).sampleQ = s.sampleQ := rfl
@[simp] theorem latchMode_workerQ : (latchMode s).workerQ = s.workerQ := rfl
@[simp] theorem latchMode_respLog : (latchMode s).respLog = s.respLog := rfl
@[simp] theorem latchMode_startLog : (latchMode s).startLog = s.startLog := rfl
@[simp] theorem latchMode_spmResp : (latchMode s).spmResp = s.spmResp := rfl
@[simp] theorem latchMode_refusals : (latchMode s).refusals = s.refusals := rfl
@[simp] theorem latchMode_script : (latchMode s).script = s.script := rfl

/-! ### samplePin -/

@[simp] theorem samplePin_cfg (level : Bool) : (samplePin level s).cfg = s.cfg := rfl
@[simp] theorem samplePin_frame (level : Bool) : (samplePin level s).frame = s.frame := rfl
@[simp] theorem samplePin_mode (level : Bool) : (samplePin level s).mode = s.mode := rfl
@[simp] theorem samplePin_curMode (level : Bool) : (samplePin level s).curMode = s.curMode := rfl
@[simp] theorem samplePin_grant (level : Bool) : (samplePin level s).grant = s.grant := rfl
@[simp] theorem samplePin_specOk (level : Bool) : (samplePin level s).specOk = s.specOk := rfl
@[simp] theorem samplePin_busy (level : Bool) : (samplePin level s).busy = s.busy := rfl
@[simp] theorem samplePin_seqPhase (level : Bool) : (samplePin level s).seqPhase = s.seqPhase := rfl
@[simp] theorem samplePin_serBits (level : Bool) : (samplePin level s).serBits = s.serBits := rfl
@[simp] theorem samplePin_serPos (level : Bool) : (samplePin level s).serPos = s.serPos := rfl
@[simp] theorem samplePin_serRet (level : Bool) : (samplePin level s).serRet = s.serRet := rfl
@[simp] theorem samplePin_serCnt (level : Bool) : (samplePin level s).serCnt = s.serCnt := rfl
@[simp] theorem samplePin_serWraps (level : Bool) : (samplePin level s).serWraps = s.serWraps := rfl
@[simp] theorem samplePin_serSub (level : Bool) : (samplePin level s).serSub = s.serSub := rfl
@[simp] theorem samplePin_linkOut (level : Bool) : (samplePin level s).linkOut = s.linkOut := rfl
@[simp] theorem samplePin_linkLog (level : Bool) : (samplePin level s).linkLog = s.linkLog := rfl
@[simp] theorem samplePin_btnSync (level : Bool) : (samplePin level s).btnSync = level := rfl
@[simp] theorem samplePin_btnPrev (level : Bool) : (samplePin level s).btnPrev = s.btnSync := rfl
@[simp] theorem samplePin_sb (level : Bool) : (samplePin level s).sb = s.sb := rfl
@[simp] theorem samplePin_xw (level : Bool) : (samplePin level s).xw = s.xw := rfl
@[simp] theorem samplePin_re (level : Bool) : (samplePin level s).re = s.re := rfl
@[simp] theorem samplePin_im (level : Bool) : (samplePin level s).im = s.im := rfl
@[simp] theorem samplePin_mag (level : Bool) : (samplePin level s).mag = s.mag := rfl
@[simp] theorem samplePin_band (level : Bool) : (samplePin level s).band = s.band := rfl
@[simp] theorem samplePin_inten (level : Bool) : (samplePin level s).inten = s.inten := rfl
@[simp] theorem samplePin_sampleQ (level : Bool) : (samplePin level s).sampleQ = s.sampleQ := rfl
@[simp] theorem samplePin_workerQ (level : Bool) : (samplePin level s).workerQ = s.workerQ := rfl
@[simp] theorem samplePin_respLog (level : Bool) : (samplePin level s).respLog = s.respLog := rfl
@[simp] theorem samplePin_startLog (level : Bool) : (samplePin level s).startLog = s.startLog := rfl
@[simp] theorem samplePin_spmResp (level : Bool) : (samplePin level s).spmResp = s.spmResp := rfl
@[simp] theorem samplePin_refusals (level : Bool) : (samplePin level s).refusals = s.refusals := rfl
@[simp] theorem samplePin_script (level : Bool) : (samplePin level s).script = s.script := rfl

/-! ### presentMessage -/

@[simp] theorem presentMessage_cfg (m : U32) (msg : WorkerMsg) : (presentMessage m msg s).cfg = s.cfg := rfl
@[simp] theorem presentMessage_frame (m : U32) (msg : WorkerMsg) : (presentMessage m msg s).frame = s.frame := rfl
@[simp] theorem presentMessage_mode (m : U32) (msg : WorkerMsg) : (presentMessage m msg s).mode = s.mode := rfl
@[simp] theorem presentMessage_curMode (m : U32) (msg : WorkerMsg) : (presentMessage m msg s).curMode = s.curMode := rfl
@[simp] theorem presentMessage_grant (m : U32) (msg : WorkerMsg) : (presentMessage m msg s).grant = s.grant := rfl
@[simp] theorem presentMessage_specOk (m : U32) (msg : WorkerMsg) : (presentMessage m msg s).specOk = s.specOk := rfl
@[simp] theorem presentMessage_busy (m : U32) (msg : WorkerMsg) : (presentMessage m msg s).busy = s.busy := rfl
@[simp] theorem presentMessage_seqPhase (m : U32) (msg : WorkerMsg) : (presentMessage m msg s).seqPhase = s.seqPhase := rfl
@[simp] theorem presentMessage_serBits (m : U32) (msg : WorkerMsg) : (presentMessage m msg s).serBits = s.serBits := rfl
@[simp] theorem presentMessage_serPos (m : U32) (msg : WorkerMsg) : (presentMessage m msg s).serPos = s.serPos := rfl
@[simp] theorem presentMessage_serRet (m : U32) (msg : WorkerMsg) : (presentMessage m msg s).serRet = s.serRet := rfl
@[simp] theorem presentMessage_serCnt (m : U32) (msg : WorkerMsg) : (presentMessage m msg s).serCnt = s.serCnt := rfl
@[simp] theorem presentMessage_serWraps (m : U32) (msg : WorkerMsg) : (presentMessage m msg s).serWraps = s.serWraps := rfl
@[simp] theorem presentMessage_serSub (m : U32) (msg : WorkerMsg) : (presentMessage m msg s).serSub = s.serSub := rfl
@[simp] theorem presentMessage_linkOut (m : U32) (msg : WorkerMsg) : (presentMessage m msg s).linkOut = s.linkOut := rfl
@[simp] theorem presentMessage_linkLog (m : U32) (msg : WorkerMsg) : (presentMessage m msg s).linkLog = s.linkLog := rfl
@[simp] theorem presentMessage_btnSync (m : U32) (msg : WorkerMsg) : (presentMessage m msg s).btnSync = s.btnSync := rfl
@[simp] theorem presentMessage_btnPrev (m : U32) (msg : WorkerMsg) : (presentMessage m msg s).btnPrev = s.btnPrev := rfl
@[simp] theorem presentMessage_sb (m : U32) (msg : WorkerMsg) : (presentMessage m msg s).sb = s.sb := rfl
@[simp] theorem presentMessage_xw (m : U32) (msg : WorkerMsg) : (presentMessage m msg s).xw = s.xw := rfl
@[simp] theorem presentMessage_re (m : U32) (msg : WorkerMsg) : (presentMessage m msg s).re = s.re := rfl
@[simp] theorem presentMessage_im (m : U32) (msg : WorkerMsg) : (presentMessage m msg s).im = s.im := rfl
@[simp] theorem presentMessage_mag (m : U32) (msg : WorkerMsg) : (presentMessage m msg s).mag = s.mag := rfl
@[simp] theorem presentMessage_band (m : U32) (msg : WorkerMsg) : (presentMessage m msg s).band = s.band := rfl
@[simp] theorem presentMessage_inten (m : U32) (msg : WorkerMsg) : (presentMessage m msg s).inten = s.inten := rfl
@[simp] theorem presentMessage_sampleQ (m : U32) (msg : WorkerMsg) : (presentMessage m msg s).sampleQ = s.sampleQ := rfl
@[simp] theorem presentMessage_workerQ (m : U32) (msg : WorkerMsg) : (presentMessage m msg s).workerQ = s.workerQ ++ [(m, msg)] := rfl
@[simp] theorem presentMessage_respLog (m : U32) (msg : WorkerMsg) : (presentMessage m msg s).respLog = s.respLog := rfl
@[simp] theorem presentMessage_startLog (m : U32) (msg : WorkerMsg) : (presentMessage m msg s).startLog = s.startLog := rfl
@[simp] theorem presentMessage_spmResp (m : U32) (msg : WorkerMsg) : (presentMessage m msg s).spmResp = s.spmResp := rfl
@[simp] theorem presentMessage_refusals (m : U32) (msg : WorkerMsg) : (presentMessage m msg s).refusals = s.refusals := rfl
@[simp] theorem presentMessage_script (m : U32) (msg : WorkerMsg) : (presentMessage m msg s).script = s.script := rfl

/-! ### emitDone -/

@[simp] theorem emitDone_cfg : (emitDone s).cfg = s.cfg := rfl
@[simp] theorem emitDone_frame : (emitDone s).frame = s.frame := rfl
@[simp] theorem emitDone_mode : (emitDone s).mode = s.mode := rfl
@[simp] theorem emitDone_curMode : (emitDone s).curMode = s.curMode := rfl
@[simp] theorem emitDone_grant : (emitDone s).grant = .none := rfl
@[simp] theorem emitDone_specOk : (emitDone s).specOk = s.specOk := rfl
@[simp] theorem emitDone_busy : (emitDone s).busy = s.busy := rfl
@[simp] theorem emitDone_seqPhase : (emitDone s).seqPhase = .boundary := rfl
@[simp] theorem emitDone_serBits : (emitDone s).serBits = s.serBits := rfl
@[simp] theorem emitDone_serPos : (emitDone s).serPos = s.serPos := rfl
@[simp] theorem emitDone_serRet : (emitDone s).serRet = s.serRet := rfl
@[simp] theorem emitDone_serCnt : (emitDone s).serCnt = s.serCnt := rfl
@[simp] theorem emitDone_serWraps : (emitDone s).serWraps = s.serWraps := rfl
@[simp] theorem emitDone_serSub : (emitDone s).serSub = s.serSub := rfl
@[simp] theorem emitDone_linkOut : (emitDone s).linkOut = s.linkOut := rfl
@[simp] theorem emitDone_linkLog : (emitDone s).linkLog = s.linkLog := rfl
@[simp] theorem emitDone_btnSync : (emitDone s).btnSync = s.btnSync := rfl
@[simp] theorem emitDone_btnPrev : (emitDone s).btnPrev = s.btnPrev := rfl
@[simp] theorem emitDone_sb : (emitDone s).sb = s.sb := rfl
@[simp] theorem emitDone_xw : (emitDone s).xw = s.xw := rfl
@[simp] theorem emitDone_re : (emitDone s).re = s.re := rfl
@[simp] theorem emitDone_im : (emitDone s).im = s.im := rfl
@[simp] theorem emitDone_mag : (emitDone s).mag = s.mag := rfl
@[simp] theorem emitDone_band : (emitDone s).band = s.band := rfl
@[simp] theorem emitDone_inten : (emitDone s).inten = s.inten := rfl
@[simp] theorem emitDone_sampleQ : (emitDone s).sampleQ = s.sampleQ := rfl
@[simp] theorem emitDone_workerQ : (emitDone s).workerQ = s.workerQ := rfl
@[simp] theorem emitDone_respLog : (emitDone s).respLog = s.respLog := rfl
@[simp] theorem emitDone_startLog : (emitDone s).startLog = s.startLog := rfl
@[simp] theorem emitDone_spmResp : (emitDone s).spmResp = none := rfl
@[simp] theorem emitDone_refusals : (emitDone s).refusals = s.refusals := rfl
@[simp] theorem emitDone_script : (emitDone s).script = s.script := rfl

/-! ### writeCell -/

@[simp] theorem writeCell_cfg (idx : U32) (c : Color) : (writeCell s idx c).cfg = s.cfg := by
  unfold writeCell; split <;> rfl
@[simp] theorem writeCell_mode (idx : U32) (c : Color) : (writeCell s idx c).mode = s.mode := by
  unfold writeCell; split <;> rfl
@[simp] theorem writeCell_curMode (idx : U32) (c : Color) : (writeCell s idx c).curMode = s.curMode := by
  unfold writeCell; split <;> rfl
@[simp] theorem writeCell_grant (idx : U32) (c : Color) : (writeCell s idx c).grant = s.grant := by
  unfold writeCell; split <;> rfl
@[simp] theorem writeCell_specOk (idx : U32) (c : Color) : (writeCell s idx c).specOk = s.specOk := by
  unfold writeCell; split <;> rfl
@[simp] theorem writeCell_busy (idx : U32) (c : Color) : (writeCell s idx c).busy = s.busy := by
  unfold writeCell; split <;> rfl
@[simp] theorem writeCell_seqPhase (idx : U32) (c : Color) : (writeCell s idx c).seqPhase = s.seqPhase := by
  unfold writeCell; split <;> rfl
@[simp] theorem writeCell_serBits (idx : U32) (c : Color) : (writeCell s idx c).serBits = s.serBits := by
  unfold writeCell; split <;> rfl
@[simp] theorem writeCell_serPos (idx : U32) (c : Color) : (writeCell s idx c).serPos = s.serPos := by
  unfold writeCell; split <;> rfl
@[simp] theorem writeCell_serRet (idx : U32) (c : Color) : (writeCell s idx c).serRet = s.serRet := by
  unfold writeCell; split <;> rfl
@[simp] theorem writeCell_serCnt (idx : U32) (c : Color) : (writeCell s idx c).serCnt = s.serCnt := by
  unfold writeCell; split <;> rfl
@[simp] theorem writeCell_serWraps (idx : U32) (c : Color) : (writeCell s idx c).serWraps = s.serWraps := by
  unfold writeCell; split <;> rfl
@[simp] theorem writeCell_serSub (idx : U32) (c : Color) : (writeCell s idx c).serSub = s.serSub := by
  unfold writeCell; split <;> rfl
@[simp] theorem writeCell_linkOut (idx : U32) (c : Color) : (writeCell s idx c).linkOut = s.linkOut := by
  unfold writeCell; split <;> rfl
@[simp] theorem writeCell_linkLog (idx : U32) (c : Color) : (writeCell s idx c).linkLog = s.linkLog := by
  unfold writeCell; split <;> rfl
@[simp] theorem writeCell_btnSync (idx : U32) (c : Color) : (writeCell s idx c).btnSync = s.btnSync := by
  unfold writeCell; split <;> rfl
@[simp] theorem writeCell_btnPrev (idx : U32) (c : Color) : (writeCell s idx c).btnPrev = s.btnPrev := by
  unfold writeCell; split <;> rfl
@[simp] theorem writeCell_sb (idx : U32) (c : Color) : (writeCell s idx c).sb = s.sb := by
  unfold writeCell; split <;> rfl
@[simp] theorem writeCell_xw (idx : U32) (c : Color) : (writeCell s idx c).xw = s.xw := by
  unfold writeCell; split <;> rfl
@[simp] theorem writeCell_re (idx : U32) (c : Color) : (writeCell s idx c).re = s.re := by
  unfold writeCell; split <;> rfl
@[simp] theorem writeCell_im (idx : U32) (c : Color) : (writeCell s idx c).im = s.im := by
  unfold writeCell; split <;> rfl
@[simp] theorem writeCell_mag (idx : U32) (c : Color) : (writeCell s idx c).mag = s.mag := by
  unfold writeCell; split <;> rfl
@[simp] theorem writeCell_band (idx : U32) (c : Color) : (writeCell s idx c).band = s.band := by
  unfold writeCell; split <;> rfl
@[simp] theorem writeCell_inten (idx : U32) (c : Color) : (writeCell s idx c).inten = s.inten := by
  unfold writeCell; split <;> rfl
@[simp] theorem writeCell_sampleQ (idx : U32) (c : Color) : (writeCell s idx c).sampleQ = s.sampleQ := by
  unfold writeCell; split <;> rfl
@[simp] theorem writeCell_workerQ (idx : U32) (c : Color) : (writeCell s idx c).workerQ = s.workerQ := by
  unfold writeCell; split <;> rfl
@[simp] theorem writeCell_respLog (idx : U32) (c : Color) : (writeCell s idx c).respLog = s.respLog := by
  unfold writeCell; split <;> rfl
@[simp] theorem writeCell_startLog (idx : U32) (c : Color) : (writeCell s idx c).startLog = s.startLog := by
  unfold writeCell; split <;> rfl
@[simp] theorem writeCell_spmResp (idx : U32) (c : Color) : (writeCell s idx c).spmResp = s.spmResp := by
  unfold writeCell; split <;> rfl
@[simp] theorem writeCell_refusals (idx : U32) (c : Color) : (writeCell s idx c).refusals = s.refusals := by
  unfold writeCell; split <;> rfl
@[simp] theorem writeCell_script (idx : U32) (c : Color) : (writeCell s idx c).script = s.script := by
  unfold writeCell; split <;> rfl

/-! ### deliverSample -/

@[simp] theorem deliverSample_cfg (v : Q15) : (deliverSample v s).cfg = s.cfg := by
  unfold deliverSample; split <;> (try split) <;> rfl
@[simp] theorem deliverSample_frame (v : Q15) : (deliverSample v s).frame = s.frame := by
  unfold deliverSample; split <;> (try split) <;> rfl
@[simp] theorem deliverSample_mode (v : Q15) : (deliverSample v s).mode = s.mode := by
  unfold deliverSample; split <;> (try split) <;> rfl
@[simp] theorem deliverSample_curMode (v : Q15) : (deliverSample v s).curMode = s.curMode := by
  unfold deliverSample; split <;> (try split) <;> rfl
@[simp] theorem deliverSample_grant (v : Q15) : (deliverSample v s).grant = s.grant := by
  unfold deliverSample; split <;> (try split) <;> rfl
@[simp] theorem deliverSample_specOk (v : Q15) : (deliverSample v s).specOk = s.specOk := by
  unfold deliverSample; split <;> (try split) <;> rfl
@[simp] theorem deliverSample_busy (v : Q15) : (deliverSample v s).busy = s.busy := by
  unfold deliverSample; split <;> (try split) <;> rfl
@[simp] theorem deliverSample_seqPhase (v : Q15) : (deliverSample v s).seqPhase = s.seqPhase := by
  unfold deliverSample; split <;> (try split) <;> rfl
@[simp] theorem deliverSample_serBits (v : Q15) : (deliverSample v s).serBits = s.serBits := by
  unfold deliverSample; split <;> (try split) <;> rfl
@[simp] theorem deliverSample_serPos (v : Q15) : (deliverSample v s).serPos = s.serPos := by
  unfold deliverSample; split <;> (try split) <;> rfl
@[simp] theorem deliverSample_serRet (v : Q15) : (deliverSample v s).serRet = s.serRet := by
  unfold deliverSample; split <;> (try split) <;> rfl
@[simp] theorem deliverSample_serCnt (v : Q15) : (deliverSample v s).serCnt = s.serCnt := by
  unfold deliverSample; split <;> (try split) <;> rfl
@[simp] theorem deliverSample_serWraps (v : Q15) : (deliverSample v s).serWraps = s.serWraps := by
  unfold deliverSample; split <;> (try split) <;> rfl
@[simp] theorem deliverSample_serSub (v : Q15) : (deliverSample v s).serSub = s.serSub := by
  unfold deliverSample; split <;> (try split) <;> rfl
@[simp] theorem deliverSample_linkOut (v : Q15) : (deliverSample v s).linkOut = s.linkOut := by
  unfold deliverSample; split <;> (try split) <;> rfl
@[simp] theorem deliverSample_linkLog (v : Q15) : (deliverSample v s).linkLog = s.linkLog := by
  unfold deliverSample; split <;> (try split) <;> rfl
@[simp] theorem deliverSample_btnSync (v : Q15) : (deliverSample v s).btnSync = s.btnSync := by
  unfold deliverSample; split <;> (try split) <;> rfl
@[simp] theorem deliverSample_btnPrev (v : Q15) : (deliverSample v s).btnPrev = s.btnPrev := by
  unfold deliverSample; split <;> (try split) <;> rfl
@[simp] theorem deliverSample_sb (v : Q15) : (deliverSample v s).sb = s.sb := by
  unfold deliverSample; split <;> (try split) <;> rfl
@[simp] theorem deliverSample_xw (v : Q15) : (deliverSample v s).xw = s.xw := by
  unfold deliverSample; split <;> (try split) <;> rfl
@[simp] theorem deliverSample_re (v : Q15) : (deliverSample v s).re = s.re := by
  unfold deliverSample; split <;> (try split) <;> rfl
@[simp] theorem deliverSample_im (v : Q15) : (deliverSample v s).im = s.im := by
  unfold deliverSample; split <;> (try split) <;> rfl
@[simp] theorem deliverSample_mag (v : Q15) : (deliverSample v s).mag = s.mag := by
  unfold deliverSample; split <;> (try split) <;> rfl
@[simp] theorem deliverSample_band (v : Q15) : (deliverSample v s).band = s.band := by
  unfold deliverSample; split <;> (try split) <;> rfl
@[simp] theorem deliverSample_inten (v : Q15) : (deliverSample v s).inten = s.inten := by
  unfold deliverSample; split <;> (try split) <;> rfl
@[simp] theorem deliverSample_workerQ (v : Q15) : (deliverSample v s).workerQ = s.workerQ := by
  unfold deliverSample; split <;> (try split) <;> rfl
@[simp] theorem deliverSample_respLog (v : Q15) : (deliverSample v s).respLog = s.respLog := by
  unfold deliverSample; split <;> (try split) <;> rfl
@[simp] theorem deliverSample_startLog (v : Q15) : (deliverSample v s).startLog = s.startLog := by
  unfold deliverSample; split <;> (try split) <;> rfl
@[simp] theorem deliverSample_spmResp (v : Q15) : (deliverSample v s).spmResp = s.spmResp := by
  unfold deliverSample; split <;> (try split) <;> rfl
@[simp] theorem deliverSample_refusals (v : Q15) : (deliverSample v s).refusals = s.refusals := by
  unfold deliverSample; split <;> (try split) <;> rfl
@[simp] theorem deliverSample_script (v : Q15) : (deliverSample v s).script = s.script := by
  unfold deliverSample; split <;> (try split) <;> rfl

end Sys2Proof.Machine
end

