-- ==== Sys2Proof/Laws/Ops.lean ====
section
/-! SUPPORT. One lemma for each shared operation, saying what it answers: sequencing, array reads, cell access, the command
port, the serializer's start and end, and whose turn a step is. -/

namespace Sys2Proof.Machine

/-! ### Sequencing -/

@[simp] theorem thenNext_next (t : State) (f : State → Result) : thenNext (.next t) f = f t := rfl

@[simp] theorem thenNext_fault (r : Fault) (f : State → Result) : thenNext (.fault r) f = .fault r := rfl

@[simp] theorem thenNext_refused (r : Refusal) (f : State → Result) :
    thenNext (.refused r) f = .refused r := rfl

theorem thenNext_eq_next_iff {o : Result} {f : State → Result} {t : State} :
    thenNext o f = .next t ↔ ∃ u, o = .next u ∧ f u = .next t := by
  cases o <;> simp

@[simp] theorem held_eq (s : State) : held s = .next s := rfl

@[simp] theorem runSteps_zero (s : State) : runSteps 0 s = .next s := rfl

theorem runSteps_succ (k : Nat) (s : State) : runSteps (k + 1) s = thenNext (step s) (runSteps k) := rfl

/-- Runs compose. -/
theorem runSteps_add (j k : Nat) (s : State) :
    runSteps (j + k) s = thenNext (runSteps j s) (runSteps k) := by
  induction j generalizing s with
  | zero => simp
  | succ j ih =>
    rw [Nat.succ_add, runSteps_succ, runSteps_succ]
    cases step s with
    | next t => exact ih t
    | fault r => rfl
    | refused r => rfl

/-- A step of a conforming configuration is its next event. -/
theorem step_of_conforming {s : State} (h : s.cfg.conforming = true) : step s = nextEvent s := by
  simp [step, h]

/-- A step that goes on had a conforming configuration. -/
theorem conforming_of_step {s t : State} (h : step s = .next t) : s.cfg.conforming = true := by
  by_contra hc
  simp [step, hc] at h

/-- A step whose event is given is that event (R63). -/
theorem step_withEvent {s : State} (h : s.cfg.conforming = true) (e : Event) :
    step (s.withEvent e) = eventStep e { s with script := [] } :=
  step_of_conforming (s := s.withEvent e) h

/-- On SEQ's turn a step is SEQ's. -/
theorem nextEvent_of_seqTurn {s s' : State} (h : seqTurn s = some s') : nextEvent s = seqStep s' := by
  unfold seqTurn at h
  unfold nextEvent
  split at h <;> simp_all [eventStep]

/-- SEQ's turn changes nothing but the script. -/
theorem seqTurn_eq {s s' : State} (h : seqTurn s = some s') : s' = { s with script := s'.script } := by
  unfold seqTurn at h
  split at h <;> simp_all
  · subst h; rfl

/-! ### Array reads (R48) -/

theorem readElems_length {α : Type} {n : Nat} {xs : List (Option α)} {ys : List α}
    (h : readElems n xs = some ys) : ys.length = n := by
  induction n generalizing xs ys with
  | zero => simp_all [readElems]
  | succ n ih =>
    match xs, h with
    | some x :: xs, h =>
      simp only [readElems, Option.map_eq_some_iff] at h
      obtain ⟨zs, hz, rfl⟩ := h
      simp [ih hz]
    | none :: _, h => simp [readElems] at h
    | [], h => simp [readElems] at h

/-- An array a stage has just written is read back whole. -/
theorem readElems_map_some {α : Type} (ys : List α) : readElems ys.length (ys.map some) = some ys := by
  induction ys with
  | nil => rfl
  | cons y ys ih => simp [readElems, ih]

/-- What a read array holds, element by element. -/
theorem readElems_getElem {α : Type} {n : Nat} {xs : List (Option α)} {ys : List α}
    (h : readElems n xs = some ys) {i : Nat} (hi : i < n) : xs[i]? = some ys[i]? := by
  induction n generalizing xs ys i with
  | zero => omega
  | succ n ih =>
    match xs, h with
    | some x :: xs, h =>
      simp only [readElems, Option.map_eq_some_iff] at h
      obtain ⟨zs, hz, rfl⟩ := h
      cases i with
      | zero => simp
      | succ i => simpa using ih hz (by omega)
    | none :: _, h => simp [readElems] at h
    | [], h => simp [readElems] at h

theorem written_iff {α : Type} {n : Nat} {xs : List (Option α)} :
    written n xs = true ↔ ∃ ys, readElems n xs = some ys := by
  simp [written, Option.isSome_iff_exists]

theorem written_zero {α : Type} (xs : List (Option α)) : written 0 xs = true := rfl

theorem written_map_some {α : Type} (ys : List α) : written ys.length (ys.map some) = true := by
  simp [written, readElems_map_some]

/-- Writing the next element extends the written part (R145). -/
theorem written_set_succ {α : Type} {j : Nat} {xs : List (Option α)} (v : α) (h : written j xs = true)
    (hj : j < xs.length) : written (j + 1) (xs.set j (some v)) = true := by
  induction j generalizing xs with
  | zero =>
    cases xs with
    | nil => simp at hj
    | cons x xs => simp [written, readElems]
  | succ j ih =>
    match xs, h, hj with
    | some x :: xs, h, hj =>
      have h' : written j xs = true := by simpa [written, readElems] using h
      have := ih h' (by simpa using hj)
      simpa [written, readElems] using this
    | none :: _, h, _ => simp [written, readElems] at h

theorem written_getElem {α : Type} {n : Nat} {xs : List (Option α)} (h : written n xs = true) {i : Nat}
    (hi : i < n) : ∃ v, xs[i]? = some (some v) := by
  obtain ⟨ys, hy⟩ := written_iff.mp h
  have hl := readElems_length hy
  refine ⟨ys[i]'(by omega), ?_⟩
  rw [readElems_getElem hy hi]
  simp [hl, hi]

theorem withElems_of_read {α : Type} {a : SpmArray} {n : Nat} {xs : List (Option α)} {ys : List α}
    {k : List α → Result} (h : readElems n xs = some ys) : withElems a n xs k = k ys := by
  simp [withElems, h]

theorem withElem_of_get {α : Type} {a : SpmArray} {i : Nat} {xs : List (Option α)} {x : α} {k : α → Result}
    (h : xs[i]? = some (some x)) : withElem a i xs k = k x := by
  simp [withElem, h]

/-! ### Frame cells (R31, R62, R101, R104) -/

theorem cellIndex_eq_some_iff {s : State} {idx : U32} {i : Nat} :
    cellIndex s idx = some i ↔ 0 ≤ idx.toInt ∧ idx.toInt < s.cfg.n ∧ i = idx.toInt.toNat := by
  unfold cellIndex
  split
  · rename_i h; simp [h, eq_comm]
  · rename_i h; simp only [reduceCtorEq, false_iff]; omega

theorem writeCell_frame_length (s : State) (idx : U32) (c : Color) :
    (writeCell s idx c).frame.length = s.frame.length := by
  unfold writeCell; split <;> simp

/-- Every cell write keeps the form of the frame. -/
theorem frameWf_writeCell (s : State) (idx : U32) (c : Color) :
    frameWf (writeCell s idx c) = frameWf s := by
  simp [frameWf, writeCell_frame_length]

/-- Blacking the frame establishes its form. -/
theorem frameWf_blackFrame (s : State) : frameWf (blackFrame s) = true := by
  simp [frameWf]

/-- Reset establishes the form of the frame. -/
theorem frameWf_resetWith (cfg : Config) (level : Bool) : frameWf (State.resetWith cfg level) = true := by
  simp [frameWf, State.resetWith]

/-! ### The command port (R100) -/

theorem portAccepts_iff {u : Grant} {p : Bool} {s : State} :
    portAccepts u p s = true ↔ s.grant = u ∧ p = true ∧ s.busy = false := by
  simp [portAccepts, and_assoc]

/-- A message taken is the oldest of its worker, and everything else stays in its order (R70). -/
theorem takeMessage_eq_some_iff {m : U32} {q r : List (U32 × WorkerMsg)} {x : WorkerMsg} :
    takeMessage m q = some (x, r) ↔
      ∃ pre post, q = pre ++ (m, x) :: post ∧ r = pre ++ post ∧ ∀ p ∈ pre, p.1 ≠ m := by
  induction q generalizing r with
  | nil => simp [takeMessage]
  | cons p ps ih =>
    unfold takeMessage
    split
    · rename_i hp
      constructor
      · rintro h
        simp only [Option.some.injEq, Prod.mk.injEq] at h
        obtain ⟨rfl, rfl⟩ := h
        exact ⟨[], ps, by rw [← hp]; rfl, rfl, nofun⟩
      · rintro ⟨pre, post, e, rfl, hpre⟩
        cases pre with
        | nil =>
          obtain ⟨rfl, rfl⟩ := List.cons.inj e
          rfl
        | cons a as =>
          obtain ⟨rfl, -⟩ := List.cons.inj e
          exact absurd hp (hpre p (.head _))
    · rename_i hp
      simp only [Option.map_eq_some_iff, Prod.exists, Prod.mk.injEq]
      constructor
      · rintro ⟨y, r', h, rfl, rfl⟩
        obtain ⟨pre, post, rfl, rfl, hpre⟩ := ih.mp h
        exact ⟨p :: pre, post, rfl, rfl, List.forall_mem_cons.mpr ⟨hp, hpre⟩⟩
      · rintro ⟨pre, post, e, rfl, hpre⟩
        cases pre with
        | nil => exact absurd (congrArg Prod.fst (List.cons.inj e).1) hp
        | cons a as =>
          obtain ⟨rfl, rfl⟩ := List.cons.inj e
          exact ⟨x, as ++ post, ih.mpr ⟨as, post, rfl, rfl, fun p h => hpre p (.tail _ h)⟩, rfl, rfl⟩

/-- Taking a message leaves the other workers' messages in their order. -/
theorem takeMessage_filter {m m' : U32} {q q' : List (U32 × WorkerMsg)} {x : WorkerMsg}
    (h : takeMessage m q = some (x, q')) (hne : m' ≠ m) :
    q'.filter (fun p => p.1 = m') = q.filter (fun p => p.1 = m') := by
  induction q generalizing q' with
  | nil => simp [takeMessage] at h
  | cons p ps ih =>
    unfold takeMessage at h
    split at h
    · rename_i hp
      simp only [Option.some.injEq, Prod.mk.injEq] at h
      obtain ⟨-, rfl⟩ := h
      rw [List.filter_cons_of_neg]
      simpa [hp] using fun e => hne e.symm
    · simp only [Option.map_eq_some_iff, Prod.mk.injEq] at h
      obtain ⟨⟨y, r⟩, hr, rfl, rfl⟩ := h
      simp [List.filter_cons, ih hr]

/-! ### The serializer (R102, R115 to R121) -/

theorem bits24_length (w : BitVec 24) : (bits24 w).length = 24 := by simp [bits24]

theorem frameBits_length (o : WireOrder) (f : List Color) : (frameBits o f).length = 24 * f.length := by
  induction f with
  | nil => rfl
  | cons c f ih =>
    simp only [frameBits, List.flatMap_cons, List.length_append, bits24_length, List.length_cons] at ih ⊢
    omega

theorem frameBits_black (o : WireOrder) (n : Nat) :
    frameBits o (List.replicate n Color.black) = List.replicate (24 * n) false := by
  induction n with
  | zero => rfl
  | succ n ih =>
    have hb : bits24 (wire24 o Color.black) = List.replicate 24 false := by
      obtain ⟨x, y, z⟩ := o
      cases x <;> cases y <;> cases z <;> rfl
    have hs : frameBits o (List.replicate (n + 1) Color.black) =
        bits24 (wire24 o Color.black) ++ frameBits o (List.replicate n Color.black) := rfl
    rw [hs, ih, hb, List.replicate_append_replicate]
    congr 1
    omega

/-- The state after a whole frame (R102): what both levels end in. -/
def frameSent (s : State) : State :=
  respond ackWord
    { s with
      linkLog := s.linkLog ++ [frameBits s.cfg.wireOrder s.frame]
      serBits := frameBits s.cfg.wireOrder s.frame
      serPos := (frameBits s.cfg.wireOrder s.frame).length
      serRet := s.seqPhase
      serCnt := 0#32
      serWraps := 0
      serSub := .gap
      linkOut := false
      busy := false }

theorem completeFrame_sentFrame (s : State) :
    completeFrame (sentFrame (startFrame s)) = frameSent s := rfl

theorem sendFrame_operation {s : State} (h : s.cfg.level = .operation) : sendFrame s = .next (frameSent s) := by
  simp only [sendFrame, h, completeFrame_sentFrame]

theorem sendFrame_timing {s : State} (h : s.cfg.level = .timing) : sendFrame s = .next (startFrame s) := by
  simp only [sendFrame, h]

/-- Each tick counts one cycle more, through every wrap of `SER_CNT` (R42). -/
@[simp] theorem serElapsed_serTick (s : State) : serElapsed (serTick s) = serElapsed s + 1 := by
  unfold serElapsed serTick
  split
  · rename_i h
    simp [h]
    omega
  · rename_i h
    have hlt : s.serCnt.toNat ≠ 4294967295 := fun e => h (BitVec.eq_of_toNat_eq (by simpa using e))
    have := s.serCnt.isLt
    simp only [BitVec.toNat_add, BitVec.toNat_ofNat]
    omega

/-- A part of the frame begins with no cycle spent. -/
theorem serElapsed_zero {s : State} (hc : s.serCnt = 0#32) (hw : s.serWraps = 0) : serElapsed s = 0 := by
  simp [serElapsed, hc, hw]

/-- `k` cycles from the start of a part: what the two counters hold. -/
theorem serTick_iterate {s : State} (hc : s.serCnt = 0#32) (hw : s.serWraps = 0) (k : Nat) :
    serTick^[k] s = { s with serCnt := BitVec.ofNat 32 k, serWraps := k / 4294967296 } := by
  induction k with
  | zero =>
    cases s
    cases hc
    cases hw
    rfl
  | succ k ih =>
    rw [Function.iterate_succ_apply', ih]
    have e : (BitVec.ofNat 32 k = 0xFFFFFFFF#32) ↔ k % 4294967296 = 4294967295 := by
      rw [BitVec.toNat_eq]
      simp
    unfold serTick
    simp only [e, State.mk.injEq, true_and, and_true]
    refine ⟨by simp [BitVec.ofNat_add], ?_⟩
    split <;> omega

/-! ### What a conforming configuration gives (R240) -/

theorem conforming_bounds {c : Config} (h : c.conforming = true) :
    1 ≤ c.n ∧ c.n ≤ 2147483647 ∧ 4 ≤ c.numModes ∧ c.numModes ≤ 4294967295 ∧ 1 ≤ c.t0h ∧ 1 ≤ c.t0l ∧
      1 ≤ c.t1h ∧ 1 ≤ c.t1l ∧ 1 ≤ c.tReset ∧ 0 < c.fClk ∧ 0 < c.tSample ∧
      c.t0h + c.t0l = c.t1h + c.t1l ∧ c.t0h < c.t1h ∧ c.wireOrder.isPermutation = true := by
  simp only [Config.conforming, Config.sizesOk, Config.timingOk, Bool.and_eq_true, decide_eq_true_eq] at h
  obtain ⟨⟨⟨⟨⟨_, _⟩, _⟩, _⟩, _⟩, ⟨⟨⟨⟨⟨⟨⟨⟨_, _⟩, _⟩, _⟩, _⟩, _⟩, _⟩, _⟩, _⟩⟩ := h
  refine ⟨?_, ?_, ?_, ?_, ?_, ?_, ?_, ?_, ?_, ?_, ?_, ?_, ?_, ?_⟩ <;> assumption

theorem highTime_pos {c : Config} (h : c.conforming = true) (v : Bool) : 0 < highTime c v := by
  have := conforming_bounds h
  unfold highTime
  split <;> omega

theorem lowTime_pos {c : Config} (h : c.conforming = true) (v : Bool) : 0 < lowTime c v := by
  have := conforming_bounds h
  unfold lowTime
  split <;> omega

/-- Both bits take one period (R119, R240). -/
theorem highTime_add_lowTime {c : Config} (h : c.conforming = true) (v : Bool) :
    highTime c v + lowTime c v = c.t0h + c.t0l := by
  have := conforming_bounds h
  unfold highTime lowTime
  split <;> omega

/-- The incremented mode as a number (R183). -/
theorem nextMode_toNat {s : State} (h : s.cfg.conforming = true) :
    (nextMode s).toNat = (s.mode.toNat + 1) % s.cfg.numModes := by
  have hb := conforming_bounds h
  have hlt : (s.mode.toNat + 1) % s.cfg.numModes < s.cfg.numModes := Nat.mod_lt _ (by omega)
  unfold nextMode
  rw [BitVec.toNat_ofNat]
  exact Nat.mod_eq_of_lt (by omega)

/-! ### Bands (R160) -/

/-- The bins of band `b` are `EDGES[b] .. EDGES[b+1] - 1`. -/
theorem inBand_iff {c : Config} {b k : Nat} :
    inBand c b k = true ↔ c.edges.getD b 0 ≤ (k : Int) ∧ (k : Int) < c.edges.getD (b + 1) 0 := by
  simp [inBand]

/-! ### Response words as numbers (R87) -/

theorem append_toNat {m n : Nat} (x : BitVec m) (y : BitVec n) :
    (x ++ y).toNat = x.toNat * 2 ^ n + y.toNat := by
  rw [BitVec.toNat_append, ← Nat.shiftLeft_add_eq_or_of_lt y.isLt, Nat.shiftLeft_eq]

theorem respWord_toNat (ok valid : Bool) (data : U32) :
    (respWord ok valid data).toNat = ok.toNat * 2 ^ 63 + valid.toNat * 2 ^ 62 + data.toNat := by
  simp only [respWord, append_toNat, BitVec.toNat_ofBool, BitVec.toNat_ofNat]
  omega

theorem colorData_toNat (c : Color) :
    (colorData c).toNat = c.r.toNat * 65536 + c.g.toNat * 256 + c.b.toNat := by
  simp only [colorData, append_toNat, BitVec.toNat_ofNat]
  omega

theorem statusWord_toNat (s : State) :
    (statusWord s).toNat = (if s.busy then 2 else 0) + (if s.specOk then 1 else 0) := by
  unfold statusWord
  cases s.busy <;> cases s.specOk <;> rfl

theorem ackWord_eq : ackWord = 0x8000000000000000#64 := by decide

theorem missWord_eq : missWord = 0x8000000000000000#64 := by decide

theorem nakWord_eq : nakWord = 0x0000000000000000#64 := by decide

end Sys2Proof.Machine
end

