-- ==== Sys2Proof/Laws/Exec.lean ====
section
/-! SUPPORT. What a command and a step can do, said once (41_led_driver.md R101 to R106; 43_mode_scheduler.md R187 to R192). -/

namespace Sys2Proof.Machine

/-! ### Commands -/

/-- UPDATE's body ends in the whole frame, or in its start, by the level (R102). -/
theorem sendFrame_cases (s : State) :
    (s.cfg.level = .operation ∧ sendFrame s = .next (frameSent s)) ∨
      (s.cfg.level = .timing ∧ sendFrame s = .next (startFrame s)) := by
  cases h : s.cfg.level with
  | operation => exact .inl ⟨rfl, sendFrame_operation h⟩
  | timing => exact .inr ⟨rfl, sendFrame_timing h⟩

/-- Everything an accepted command word can do: it always answers a next state, which is a cell written and ACK, a plain
answer, or a frame sent or started from the Frame or from the black Frame. -/
theorem exec_decodeCmd_cases (w : U64) (s : State) :
    ∃ t, exec (decodeCmd w) s = .next t ∧
      ((cmdOp w = 1#8 ∧ ∃ idx c, t = respond ackWord (writeCell s idx c)) ∨
        (∃ x, t = respond x s) ∨
        (∃ s0, (s0 = s ∨ (cmdOp w = 3#8 ∧ s0 = blackFrame s)) ∧
          ((s.cfg.level = .operation ∧ t = frameSent s0) ∨
            (s.cfg.level = .timing ∧ t = startFrame s0)))) := by
  unfold decodeCmd
  split
  · rename_i h
    exact ⟨_, rfl, .inl ⟨h, _, _, rfl⟩⟩
  split
  · rcases sendFrame_cases s with ⟨hl, hs⟩ | ⟨hl, hs⟩
    · exact ⟨_, hs, .inr (.inr ⟨s, .inl rfl, .inl ⟨hl, rfl⟩⟩)⟩
    · exact ⟨_, hs, .inr (.inr ⟨s, .inl rfl, .inr ⟨hl, rfl⟩⟩)⟩
  split
  · rename_i h
    rcases sendFrame_cases (blackFrame s) with ⟨hl, hs⟩ | ⟨hl, hs⟩
    · exact ⟨_, hs, .inr (.inr ⟨_, .inr ⟨h, rfl⟩, .inl ⟨by simpa using hl, rfl⟩⟩)⟩
    · exact ⟨_, hs, .inr (.inr ⟨_, .inr ⟨h, rfl⟩, .inr ⟨by simpa using hl, rfl⟩⟩)⟩
  split
  · exact ⟨_, rfl, .inr (.inl ⟨_, rfl⟩)⟩
  split
  · exact ⟨_, rfl, .inr (.inl ⟨_, rfl⟩)⟩
  · exact ⟨_, rfl, .inr (.inl ⟨_, rfl⟩)⟩

/-- The frame of every command: what no command changes (R52, R67). -/
theorem exec_decodeCmd_frame {w : U64} {s t : State} (h : exec (decodeCmd w) s = .next t) :
    t = { s with
      frame := t.frame, busy := t.busy, seqPhase := t.seqPhase, serBits := t.serBits, serPos := t.serPos
      serRet := t.serRet, serCnt := t.serCnt, serWraps := t.serWraps, serSub := t.serSub, linkOut := t.linkOut
      linkLog := t.linkLog, respLog := t.respLog, spmResp := t.spmResp } := by
  obtain ⟨t', h', hc⟩ := exec_decodeCmd_cases w s
  obtain rfl : t' = t := by simpa [h'] using h
  rcases hc with ⟨-, idx, c, rfl⟩ | ⟨x, rfl⟩ | ⟨s0, h0, ⟨-, rfl⟩ | ⟨-, rfl⟩⟩
  · unfold writeCell
    split <;> rfl
  · rfl
  · rcases h0 with rfl | ⟨-, rfl⟩ <;> rfl
  · rcases h0 with rfl | ⟨-, rfl⟩ <;> rfl

/-- The words SPM issues are the commands R166 names. -/
theorem decodeCmd_setcolorWord (b : Nat) (c : Color) :
    decodeCmd (setcolorWord b c) = .setcolor (BitVec.ofNat 32 b) c.r c.g c.b := decodeCmd_setcolor _ _ _ _

theorem decodeCmd_updateWord : decodeCmd updateWord = .update 0#56 := decodeCmd_update _

/-- Taking a word the model's check accepts is running its command. -/
theorem takeCommand_of_accepted {w : U64} (s : State) (h : (decodeCmd w).refusedByModel = false) :
    takeCommand w s = exec (decodeCmd w) s := by
  have e : noteRefusal w s = s := by simp [noteRefusal, h]
  simp [takeCommand, refusesWord, e, h]

/-- With R210's hardware column every word runs, and is recorded if the check refuses it. -/
theorem takeCommand_of_hardware (w : U64) {s : State} (h : s.cfg.check = .hardware) :
    takeCommand w s = exec (decodeCmd w) (noteRefusal w s) := by
  simp [takeCommand, refusesWord, h]

/-- The spec's own model refuses the word before its command executes (R213, R217). -/
theorem takeCommand_of_refused {w : U64} {s : State} (h : s.cfg.check = .refuse)
    (hr : (decodeCmd w).refusedByModel = true) : takeCommand w s = .refused (.refusedCommand w) := by
  simp [takeCommand, refusesWord, h, hr]

/-- Everything taking a word can do: it is refused, or its command runs. -/
theorem takeCommand_cases (w : U64) (s : State) :
    (s.cfg.check = .refuse ∧ (decodeCmd w).refusedByModel = true ∧
        takeCommand w s = .refused (.refusedCommand w)) ∨
      ((s.cfg.check = .hardware ∨ (decodeCmd w).refusedByModel = false) ∧
        takeCommand w s = exec (decodeCmd w) (noteRefusal w s)) := by
  cases hc : s.cfg.check with
  | hardware => exact .inr ⟨.inl rfl, takeCommand_of_hardware w hc⟩
  | refuse =>
    cases hr : (decodeCmd w).refusedByModel with
    | true => exact .inl ⟨rfl, rfl, takeCommand_of_refused hc hr⟩
    | false => exact .inr ⟨.inr rfl, by simp [takeCommand, refusesWord, hr]⟩

/-- A word taken with a next state ran its command. -/
theorem takeCommand_eq_next {w : U64} {s t : State} (h : takeCommand w s = .next t) :
    (s.cfg.check = .hardware ∨ (decodeCmd w).refusedByModel = false) ∧
      exec (decodeCmd w) (noteRefusal w s) = .next t := by
  rcases takeCommand_cases w s with ⟨-, -, e⟩ | ⟨ha, e⟩ <;> rw [e] at h
  · cases h
  · exact ⟨ha, h⟩

theorem takeCommand_setcolorWord (b : Nat) (c : Color) (s : State) :
    takeCommand (setcolorWord b c) s = .next (respond ackWord (writeCell s (BitVec.ofNat 32 b) c)) := by
  rw [takeCommand_of_accepted s (by rw [decodeCmd_setcolorWord]; rfl), decodeCmd_setcolorWord]
  rfl

theorem takeCommand_updateWord (s : State) : takeCommand updateWord s = sendFrame s := by
  rw [takeCommand_of_accepted s (by rw [decodeCmd_updateWord]; rfl), decodeCmd_updateWord]
  rfl

/-- The cell SPM names is in range (R166). -/
theorem cellIndex_ofNat {s : State} {b : Nat} (hb : b < s.cfg.n) (hn : s.cfg.n ≤ 2147483647) :
    cellIndex s (BitVec.ofNat 32 b) = some b := by
  have hi : (BitVec.ofNat 32 b).toInt = (b : Int) := by
    rw [BitVec.toInt_ofNat']
    exact Int.bmod_eq_of_le (by omega) (by omega)
  rw [cellIndex_eq_some_iff, hi]
  omega

theorem writeCell_ofNat {s : State} {b : Nat} (c : Color) (hb : b < s.cfg.n) (hn : s.cfg.n ≤ 2147483647) :
    writeCell s (BitVec.ofNat 32 b) c = { s with frame := s.frame.set b c } := by
  simp [writeCell, cellIndex_ofNat hb hn]

/-! ### Dispatch -/

/-- Everything a boundary can do: an external quantum, a spectral pass, an empty quantum, or Unreachable (R188 to R190,
R198). -/
theorem boundaryStep_cases (s : State) :
    (s.cfg.numModes ≤ s.mode.toNat ∧ boundaryStep s = .fault (.unreachableMode s.mode)) ∨
      (s.mode.toNat < s.cfg.numModes ∧ s.mode ≠ spectralMode ∧
        boundaryStep s = .next (startExternal s.mode (latchMode s))) ∨
      (s.mode.toNat < s.cfg.numModes ∧ s.mode = spectralMode ∧ s.specOk = true ∧
        boundaryStep s = .next { latchMode s with grant := .spm, seqPhase := .spmAcquire 0 }) ∨
      (s.mode.toNat < s.cfg.numModes ∧ s.mode = spectralMode ∧ s.specOk = false ∧
        boundaryStep s = .next (quantumEnd (latchMode s))) := by
  unfold boundaryStep decodeDispatch
  split
  · rename_i h
    exact .inl ⟨h, rfl⟩
  rename_i hlt
  have hlt' : s.mode.toNat < s.cfg.numModes := by omega
  split
  · rename_i h
    refine .inr (.inl ⟨hlt', by rw [h]; decide, ?_⟩)
    simp [exec, execDispatchMotionTilt, h]
  split
  · rename_i h
    cases hs : s.specOk with
    | true => exact .inr (.inr (.inl ⟨hlt', h, rfl, by simp [exec, execDispatchSpectral, hs]⟩))
    | false =>
      exact .inr (.inr (.inr ⟨hlt', h, rfl, by simp [exec, execDispatchSpectral, hs, quantumEnd]⟩))
  rename_i hne
  refine .inr (.inl ⟨hlt', hne, ?_⟩)
  split
  · rename_i h; simp [exec, execDispatchTelemetry, h]
  split
  · rename_i h; simp [exec, execDispatchPlaceholder, h]
  · rfl

/-! ### The arbiter -/

/-- Everything a step of ARB can do (R182 to R184). -/
theorem arbStep_eq (level : Bool) (s : State) :
    arbStep level s = .next
      (if s.btnSync = true ∧ level = false then
        { samplePin level s with mode := nextMode s } else samplePin level s) := by
  cases hb : s.btnSync <;> cases level <;>
    simp [arbStep, edgePair, samplePin, hb, decodeEdge, exec, execEdgeFall, nextMode]

end Sys2Proof.Machine
end

