-- ==== Sys2Proof/Laws/PerInstr.lean ====
section
/-! SUPPORT. The family StrictRow: the encoding of an instruction with zero should-be-zero fields matches its row of
spec/opcode_table.json, with the row's own match and mask (30_encoding.md R86: the strict encodings are the table's
match/mask pairs). One lemma per constructor of Instr. -/

namespace Sys2Proof.Laws.StrictRow

/-- The code matches the row the table gives the instruction, for `numModes` modes. -/
def matchesRow (numModes : Nat) (i : Instr) (c : Code) : Prop :=
  match i, c with
  | .setcolor _ _ _ _, .cmd w => w &&& 0xFF00000000000000#64 = 0x0100000000000000#64
  | .update _, .cmd w => w = 0x0200000000000000#64
  | .clear _, .cmd w => w = 0x0300000000000000#64
  | .readcolor _ _, .cmd w => w &&& 0xFF00000000FFFFFF#64 = 0x0400000000000000#64
  | .readreg _ _, .cmd w => w &&& 0xFF00000000FFFFFF#64 = 0x0500000000000000#64
  | .reserved _ _, .cmd w => opDefined (cmdOp w) = false
  | .edgeFall, .edge e => e = 0b10#2
  | .dispatchMotionTilt, .dispatch m => m = 0x00000000#32
  | .dispatchSpectral, .dispatch m => m = 0x00000001#32
  | .dispatchTelemetry, .dispatch m => m = 0x00000002#32
  | .dispatchPlaceholder, .dispatch m => m = 0x00000003#32
  | .dispatchExt _, .dispatch m => 4 ≤ m.toNat ∧ m.toNat < numModes
  | .dispatchUnreachable _, .dispatch m => numModes ≤ m.toNat
  | _, _ => False

/-- What the family says of an instruction. -/
def Statement (i : Instr) : Prop :=
  ∀ numModes, i.operandsOk numModes = true → i.sbzZero = true → matchesRow numModes i (encode i)

theorem setcolor (idx : U32) (r g b : Byte) : Statement (.setcolor idx r g b) := by
  intro _ _ _
  show packIndexed 1#8 idx (r ++ g ++ b) &&& 0xFF00000000000000#64 = 0x0100000000000000#64
  refine BitVec.eq_of_getLsbD_eq fun i hi => ?_
  rw [BitVec.getLsbD_and, getLsbD_packIndexed]
  interval_cases i <;> simp

theorem update (sbz : BitVec 56) : Statement (.update sbz) := by
  intro _ _ h
  obtain rfl : sbz = 0#56 := by simpa [Instr.sbzZero] using h
  show packPlain 2#8 0#56 = _
  decide

theorem clear (sbz : BitVec 56) : Statement (.clear sbz) := by
  intro _ _ h
  obtain rfl : sbz = 0#56 := by simpa [Instr.sbzZero] using h
  show packPlain 3#8 0#56 = _
  decide

theorem readcolor (idx : U32) (sbz : BitVec 24) : Statement (.readcolor idx sbz) := by
  intro _ _ h
  obtain rfl : sbz = 0#24 := by simpa [Instr.sbzZero] using h
  show packIndexed 4#8 idx 0#24 &&& 0xFF00000000FFFFFF#64 = 0x0400000000000000#64
  refine BitVec.eq_of_getLsbD_eq fun i hi => ?_
  rw [BitVec.getLsbD_and, getLsbD_packIndexed]
  interval_cases i <;> simp

theorem readreg (id : U32) (sbz : BitVec 24) : Statement (.readreg id sbz) := by
  intro _ _ h
  obtain rfl : sbz = 0#24 := by simpa [Instr.sbzZero] using h
  show packIndexed 5#8 id 0#24 &&& 0xFF00000000FFFFFF#64 = 0x0500000000000000#64
  refine BitVec.eq_of_getLsbD_eq fun i hi => ?_
  rw [BitVec.getLsbD_and, getLsbD_packIndexed]
  interval_cases i <;> simp

theorem reserved (op : Byte) (payload : BitVec 56) : Statement (.reserved op payload) := by
  intro _ h _
  show opDefined (cmdOp (packPlain op payload)) = false
  rw [cmdOp_packPlain]
  simpa [Instr.operandsOk] using h

theorem edgeFall : Statement .edgeFall := fun _ _ _ => rfl

theorem dispatchMotionTilt : Statement .dispatchMotionTilt := fun _ _ _ => rfl

theorem dispatchSpectral : Statement .dispatchSpectral := fun _ _ _ => rfl

theorem dispatchTelemetry : Statement .dispatchTelemetry := fun _ _ _ => rfl

theorem dispatchPlaceholder : Statement .dispatchPlaceholder := fun _ _ _ => rfl

theorem dispatchExt (m : U32) : Statement (.dispatchExt m) := by
  intro n h _
  have : 4 ≤ m.toNat ∧ m.toNat < n := by simpa [Instr.operandsOk] using h
  exact this

theorem dispatchUnreachable (m : U32) : Statement (.dispatchUnreachable m) := by
  intro n h _
  have : n ≤ m.toNat := by simpa [Instr.operandsOk] using h
  exact this

end Sys2Proof.Laws.StrictRow
end

