-- ==== Sys2Proof/Laws/Step.lean ====
section
/-! SUPPORT. Everything a step can do, said once: the inversion of `step` by event (20_memory.md R63) and of SEQ's step by what it
does (10_state.md R40, R41). Whole-machine rules follow by cases. -/

namespace Sys2Proof.Machine

/-- A step that goes on is SEQ's, ARB's, or an event at a port. -/
theorem step_cases {s t : State} (h : step s = .next t) :
    (∃ s', seqTurn s = some s' ∧ seqStep s' = .next t) ∨
      (∃ level rest, s.script = .pin level :: rest ∧
        t = if s.btnSync = true ∧ level = false then
            { samplePin level { s with script := rest } with mode := nextMode s }
          else samplePin level { s with script := rest }) ∨
      (∃ v rest, s.script = .sample v :: rest ∧ t = deliverSample v { s with script := rest }) ∨
      (∃ m msg rest, s.script = .present m msg :: rest ∧
        t = presentMessage m msg { s with script := rest }) ∨
      (∃ level rest, s.script = .reset level :: rest ∧ t = resetInput level { s with script := rest }) := by
  rw [step_of_conforming (conforming_of_step h)] at h
  unfold nextEvent at h
  cases hs : s.script with
  | nil => exact .inl ⟨s, by simp [seqTurn, hs], by simpa [hs] using h⟩
  | cons e rest =>
    rw [hs] at h
    cases e with
    | seq => exact .inl ⟨_, by simp [seqTurn, hs], h⟩
    | pin level =>
      simp only [eventStep, arbStep_eq, Host.Outcome.next.injEq] at h
      exact .inr (.inl ⟨level, rest, rfl, h.symm⟩)
    | sample v =>
      simp only [eventStep, Host.Outcome.next.injEq] at h
      exact .inr (.inr (.inl ⟨v, rest, rfl, h.symm⟩))
    | present m msg =>
      simp only [eventStep, Host.Outcome.next.injEq] at h
      exact .inr (.inr (.inr (.inl ⟨m, msg, rest, rfl, h.symm⟩)))
    | reset level =>
      simp only [eventStep, Host.Outcome.next.injEq] at h
      exact .inr (.inr (.inr (.inr ⟨level, rest, rfl, h.symm⟩)))

/-- What SEQ does in one step, by kind. -/
inductive SeqMove (s : State) : State → Prop where
  /-- SEQ waits (R228). -/
  | wait : SeqMove s s
  /-- A boundary dispatches an external quantum (R190). -/
  | external (phase : s.seqPhase = .boundary) (mode : s.mode.toNat < s.cfg.numModes) :
      SeqMove s (startExternal s.mode (latchMode s))
  /-- A boundary starts a spectral pass (R189). -/
  | pass (phase : s.seqPhase = .boundary) (mode : s.mode.toNat < s.cfg.numModes) (ok : s.specOk = true) :
      SeqMove s { latchMode s with grant := .spm, seqPhase := .spmAcquire 0 }
  /-- A boundary meets a disabled spectral mode (R141). -/
  | skip (phase : s.seqPhase = .boundary) (mode : s.mode.toNat < s.cfg.numModes) (off : s.specOk = false) :
      SeqMove s (quantumEnd (latchMode s))
  /-- Acquire takes a sample (R145). -/
  | take (j : Nat) (v : Q15) (rest : List Q15) (phase : s.seqPhase = .spmAcquire j) (lt : j < s.cfg.l)
      (queue : s.sampleQ = v :: rest) :
      SeqMove s { s with
        sb := s.sb.set j (some v)
        sampleQ := if j + 1 < s.cfg.l then rest else []
        seqPhase := .spmAcquire (j + 1) }
  /-- Acquire is complete (R145). -/
  | acquired (j : Nat) (phase : s.seqPhase = .spmAcquire j) (past : s.cfg.l ≤ j) :
      SeqMove s { s with seqPhase := .spmWindow }
  /-- A spectral phase meets `SPEC_OK = 0` (R141). -/
  | gated (off : s.specOk = false) (notBoundary : s.seqPhase ≠ .boundary) (notExt : s.seqPhase ≠ .extRun)
      (notSer : ∀ k, s.seqPhase ≠ .ser k) : SeqMove s (quantumEnd s)
  /-- Window (R150). -/
  | window (sb : List Q15) (phase : s.seqPhase = .spmWindow) (ok : s.cfg.spectralOk = true)
      (read : readElems s.cfg.l s.sb = some sb) :
      SeqMove s { s with xw := (windowStage s.cfg sb).map some, seqPhase := .spmDft }
  /-- Transform (R153). -/
  | dft (xw : List Q15) (phase : s.seqPhase = .spmDft) (ok : s.cfg.spectralOk = true)
      (read : readElems s.cfg.l s.xw = some xw) :
      SeqMove s { s with
        re := (reStage s.cfg xw).map some, im := (imStage s.cfg xw).map some, seqPhase := .spmMag }
  /-- Magnitude (R156). -/
  | mag (re im : List U64) (phase : s.seqPhase = .spmMag) (ok : s.cfg.spectralOk = true)
      (readRe : readElems (s.cfg.l / 2 + 1) s.re = some re) (readIm : readElems (s.cfg.l / 2 + 1) s.im = some im) :
      SeqMove s { s with mag := (magStage re im).map some, seqPhase := .spmReduce }
  /-- Reduce (R158, R159). -/
  | reduce (mag : List U64) (phase : s.seqPhase = .spmReduce) (ok : s.cfg.spectralOk = true)
      (read : readElems (s.cfg.l / 2 + 1) s.mag = some mag) :
      SeqMove s { s with band := (bandStage s.cfg mag).map some, seqPhase := .spmNorm }
  /-- Normalise (R162). -/
  | norm (band : List U64) (phase : s.seqPhase = .spmNorm) (ok : s.cfg.spectralOk = true)
      (read : readElems s.cfg.n s.band = some band) :
      SeqMove s { s with inten := (normStage s.cfg band).map some, seqPhase := .spmEmit 0 }
  /-- Emit writes a cell (R166). -/
  | emit (b : Nat) (v : Byte) (phase : s.seqPhase = .spmEmit b) (lt : b < s.cfg.n) (grant : s.grant = .spm)
      (free : s.busy = false) (read : s.inten[b]? = some (some v)) :
      SeqMove s { respond ackWord (writeCell s (BitVec.ofNat 32 b) (specColor s.cfg.specMask v)) with
        spmResp := none, seqPhase := .spmEmit (b + 1) }
  /-- Emit issues its UPDATE (R166). -/
  | flush (b : Nat) (t : State) (phase : s.seqPhase = .spmEmit b) (past : s.cfg.n ≤ b) (grant : s.grant = .spm) (free : s.busy = false)
      (resp : s.spmResp = none) (send : sendFrame s = .next t) : SeqMove s t
  /-- The pass ends (R166, R192). -/
  | passEnd (b : Nat) (phase : s.seqPhase = .spmEmit b) (past : s.cfg.n ≤ b) (grant : s.grant = .spm) (free : s.busy = false) :
      SeqMove s (emitDone s)
  /-- The worker's command is taken (R190, R191). -/
  | command (m : U32) (w : U64) (q : List (U32 × WorkerMsg)) (t : State) (phase : s.seqPhase = .extRun)
      (grant : s.grant = .ext m) (free : s.busy = false) (msg : takeMessage m s.workerQ = some (.cmd w, q))
      (accepted : s.cfg.check = .hardware ∨ (decodeCmd w).refusedByModel = false)
      (run : exec (decodeCmd w) (noteRefusal w { s with workerQ := q }) = .next t) : SeqMove s t
  /-- The worker is done (R190, R192). -/
  | done (m : U32) (q : List (U32 × WorkerMsg)) (phase : s.seqPhase = .extRun) (grant : s.grant = .ext m)
      (free : s.busy = false) (msg : takeMessage m s.workerQ = some (.done, q)) :
      SeqMove s (quantumEnd { s with workerQ := q })
  /-- A cycle of the HIGH part of a bit (R119). -/
  | high (k : Nat) (v : Bool) (phase : s.seqPhase = .ser k) (sub : s.serSub = .high)
      (bit : s.serBits[s.serPos]? = some v) : SeqMove s (highCycle v s)
  /-- A cycle of the LOW part of a bit (R119). -/
  | low (k : Nat) (v : Bool) (phase : s.seqPhase = .ser k) (sub : s.serSub = .low)
      (bit : s.serBits[s.serPos]? = some v) : SeqMove s (lowCycle v s)
  /-- A cycle of the latch gap (R120). -/
  | gap (k : Nat) (phase : s.seqPhase = .ser k) (sub : s.serSub = .gap) (more : serElapsed s + 1 < s.cfg.tReset) :
      SeqMove s (serTick s)
  /-- The frame completes (R121). -/
  | complete (k : Nat) (phase : s.seqPhase = .ser k) (sub : s.serSub = .gap)
      (last : s.cfg.tReset ≤ serElapsed s + 1) : SeqMove s (completeFrame s)
  /-- No bit is left, and the latch gap begins (R115, R120). -/
  | sent (k : Nat) (phase : s.seqPhase = .ser k) (sub : s.serSub ≠ .gap) (bit : s.serBits[s.serPos]? = none) :
      SeqMove s (startGap s)

theorem withSpectral_eq_next {s t : State} {k : State → Result} (h : withSpectral s k = .next t) :
    (s.specOk = false ∧ t = quantumEnd s) ∨ (s.specOk = true ∧ s.cfg.spectralOk = true ∧ k s = .next t) := by
  unfold withSpectral at h
  split at h
  · rename_i ho
    split at h
    · rename_i hc
      exact .inr ⟨ho, hc, h⟩
    · cases h
  · rename_i ho
    cases h
    exact .inl ⟨by simpa using ho, rfl⟩

theorem withElems_eq_next {α : Type} {a : SpmArray} {n : Nat} {xs : List (Option α)} {k : List α → Result}
    {t : State} (h : withElems a n xs k = .next t) : ∃ ys, readElems n xs = some ys ∧ k ys = .next t := by
  unfold withElems at h
  split at h
  · rename_i ys hy
    exact ⟨ys, hy, h⟩
  · cases h

theorem withElem_eq_next {α : Type} {a : SpmArray} {i : Nat} {xs : List (Option α)} {k : α → Result}
    {t : State} (h : withElem a i xs k = .next t) : ∃ x, xs[i]? = some (some x) ∧ k x = .next t := by
  unfold withElem at h
  split at h
  · rename_i x hx
    exact ⟨x, hx, h⟩
  · cases h

/-- Acquire does one of three things. -/
theorem acquireStep_move {s t : State} {j : Nat} (hp : s.seqPhase = .spmAcquire j)
    (h : acquireStep j s = .next t) : SeqMove s t := by
  unfold acquireStep at h
  split at h
  · rename_i hj
    split at h
    · cases h
      exact .wait
    · rename_i v rest hq
      cases h
      exact .take j v rest hp hj hq
  · rename_i hj
    cases h
    exact .acquired j hp (by omega)

/-- Emit does one of four things. -/
theorem emitStep_move {s t : State} {b : Nat} (hp : s.seqPhase = .spmEmit b) (h : emitStep b s = .next t) :
    SeqMove s t := by
  unfold emitStep at h
  split at h
  · rename_i hacc
    obtain ⟨hg, -, hf⟩ := portAccepts_iff.mp hacc
    split at h
    · rename_i hb
      obtain ⟨v, hv, h⟩ := withElem_eq_next h
      rw [takeCommand_setcolorWord] at h
      simp only [thenNext_next, emitNext] at h
      cases h
      exact .emit b v hp hb hg hf hv
    · rename_i hb
      split at h
      · rename_i hr
        rw [takeCommand_updateWord] at h
        exact .flush b t hp (by omega) hg hf hr h
      · cases h
        exact .passEnd b hp (by omega) hg hf
  · cases h
    exact .wait

/-- EXT_RUN does one of three things. -/
theorem extRunStep_move {s t : State} (hp : s.seqPhase = .extRun) (h : extRunStep s = .next t) :
    SeqMove s t := by
  unfold extRunStep at h
  split at h
  · rename_i m hg
    unfold extRunWith at h
    split at h
    · rename_i hacc
      obtain ⟨-, -, hf⟩ := portAccepts_iff.mp hacc
      split at h
      · cases h
        exact .wait
      · rename_i w q hm
        obtain ⟨ha, h⟩ := takeCommand_eq_next h
        exact .command m w q t hp hg hf hm ha h
      · rename_i q hm
        cases h
        exact .done m q hp hg hf hm
    · cases h
      exact .wait
  · cases h
    exact .wait
  · cases h
    exact .wait

/-- A serializer cycle does one of five things. -/
theorem serCycle_move {s : State} {k : Nat} (hp : s.seqPhase = .ser k) : SeqMove s (serCycle s) := by
  unfold serCycle
  split
  · rename_i v hs hb
    exact .high k v hp hs hb
  · rename_i v hs hb
    exact .low k v hp hs hb
  · rename_i hs
    unfold gapCycle
    split
    · rename_i hc
      exact .gap k hp hs hc
    · exact .complete k hp hs (by omega)
  · rename_i hs hb
    exact .sent k hp (by simp [hs]) hb
  · rename_i hs hb
    exact .sent k hp (by simp [hs]) hb

/-- A step of SEQ that goes on is one of the moves. -/
theorem seqStep_move {s t : State} (h : seqStep s = .next t) : SeqMove s t := by
  unfold seqStep at h
  split at h
  · rename_i hp
    rcases boundaryStep_cases s with ⟨-, e⟩ | ⟨hm, -, e⟩ | ⟨hm, -, ho, e⟩ | ⟨hm, -, ho, e⟩ <;> rw [e] at h
    · cases h
    · cases h
      exact .external hp hm
    · cases h
      exact .pass hp hm ho
    · cases h
      exact .skip hp hm ho
  · rename_i j hp
    rcases withSpectral_eq_next h with ⟨off, rfl⟩ | ⟨-, -, h⟩
    · exact .gated off (by simp [hp]) (by simp [hp]) (by simp [hp])
    exact acquireStep_move hp h
  · rename_i hp
    rcases withSpectral_eq_next h with ⟨off, rfl⟩ | ⟨-, ho, h⟩
    · exact .gated off (by simp [hp]) (by simp [hp]) (by simp [hp])
    obtain ⟨sb, hr, h⟩ := withElems_eq_next h
    cases h
    exact .window sb hp ho hr
  · rename_i hp
    rcases withSpectral_eq_next h with ⟨off, rfl⟩ | ⟨-, ho, h⟩
    · exact .gated off (by simp [hp]) (by simp [hp]) (by simp [hp])
    obtain ⟨xw, hr, h⟩ := withElems_eq_next h
    cases h
    exact .dft xw hp ho hr
  · rename_i hp
    rcases withSpectral_eq_next h with ⟨off, rfl⟩ | ⟨-, ho, h⟩
    · exact .gated off (by simp [hp]) (by simp [hp]) (by simp [hp])
    obtain ⟨re, hr, h⟩ := withElems_eq_next h
    obtain ⟨im, hi, h⟩ := withElems_eq_next h
    cases h
    exact .mag re im hp ho hr hi
  · rename_i hp
    rcases withSpectral_eq_next h with ⟨off, rfl⟩ | ⟨-, ho, h⟩
    · exact .gated off (by simp [hp]) (by simp [hp]) (by simp [hp])
    obtain ⟨mag, hr, h⟩ := withElems_eq_next h
    cases h
    exact .reduce mag hp ho hr
  · rename_i hp
    rcases withSpectral_eq_next h with ⟨off, rfl⟩ | ⟨-, ho, h⟩
    · exact .gated off (by simp [hp]) (by simp [hp]) (by simp [hp])
    obtain ⟨band, hr, h⟩ := withElems_eq_next h
    cases h
    exact .norm band hp ho hr
  · rename_i b hp
    rcases withSpectral_eq_next h with ⟨off, rfl⟩ | ⟨-, -, h⟩
    · exact .gated off (by simp [hp]) (by simp [hp]) (by simp [hp])
    exact emitStep_move hp h
  · rename_i hp
    exact extRunStep_move hp h
  · rename_i k hp
    cases h
    exact serCycle_move hp

/-! ### SEQ's step, phase by phase (R40, R41) -/

theorem withSpectral_of_ok {s : State} {k : State → Result} (ho : s.specOk = true)
    (hc : s.cfg.spectralOk = true) : withSpectral s k = k s := by
  unfold withSpectral
  rw [ho, hc]
  rfl

theorem seqStep_of_boundary {s : State} (hp : s.seqPhase = .boundary) : seqStep s = boundaryStep s := by
  unfold seqStep
  rw [hp]

theorem seqStep_of_acquire {s : State} {j : Nat} (hp : s.seqPhase = .spmAcquire j) (ho : s.specOk = true)
    (hc : s.cfg.spectralOk = true) : seqStep s = acquireStep j s := by
  rw [← withSpectral_of_ok (k := acquireStep j) ho hc]
  unfold seqStep
  rw [hp]

theorem seqStep_of_window {s : State} {sb : List Q15} (hp : s.seqPhase = .spmWindow) (ho : s.specOk = true)
    (hc : s.cfg.spectralOk = true) (read : readElems s.cfg.l s.sb = some sb) :
    seqStep s = .next { s with xw := (windowStage s.cfg sb).map some, seqPhase := .spmDft } := by
  have h : windowStep s = _ := withElems_of_read read
  rw [← h, ← withSpectral_of_ok (k := windowStep) ho hc]
  unfold seqStep
  rw [hp]

theorem seqStep_of_dft {s : State} {xw : List Q15} (hp : s.seqPhase = .spmDft) (ho : s.specOk = true)
    (hc : s.cfg.spectralOk = true) (read : readElems s.cfg.l s.xw = some xw) :
    seqStep s = .next { s with
      re := (reStage s.cfg xw).map some, im := (imStage s.cfg xw).map some, seqPhase := .spmMag } := by
  have h : dftStep s = _ := withElems_of_read read
  rw [← h, ← withSpectral_of_ok (k := dftStep) ho hc]
  unfold seqStep
  rw [hp]

theorem seqStep_of_mag {s : State} {re im : List U64} (hp : s.seqPhase = .spmMag) (ho : s.specOk = true)
    (hc : s.cfg.spectralOk = true) (readRe : readElems (s.cfg.l / 2 + 1) s.re = some re)
    (readIm : readElems (s.cfg.l / 2 + 1) s.im = some im) :
    seqStep s = .next { s with mag := (magStage re im).map some, seqPhase := .spmReduce } := by
  have h : magStep s = _ := (withElems_of_read readRe).trans (withElems_of_read readIm)
  rw [← h, ← withSpectral_of_ok (k := magStep) ho hc]
  unfold seqStep
  rw [hp]

theorem seqStep_of_reduce {s : State} {mag : List U64} (hp : s.seqPhase = .spmReduce) (ho : s.specOk = true)
    (hc : s.cfg.spectralOk = true) (read : readElems (s.cfg.l / 2 + 1) s.mag = some mag) :
    seqStep s = .next { s with band := (bandStage s.cfg mag).map some, seqPhase := .spmNorm } := by
  have h : reduceStep s = _ := withElems_of_read read
  rw [← h, ← withSpectral_of_ok (k := reduceStep) ho hc]
  unfold seqStep
  rw [hp]

theorem seqStep_of_norm {s : State} {band : List U64} (hp : s.seqPhase = .spmNorm) (ho : s.specOk = true)
    (hc : s.cfg.spectralOk = true) (read : readElems s.cfg.n s.band = some band) :
    seqStep s = .next { s with inten := (normStage s.cfg band).map some, seqPhase := .spmEmit 0 } := by
  have h : normStep s = _ := withElems_of_read read
  rw [← h, ← withSpectral_of_ok (k := normStep) ho hc]
  unfold seqStep
  rw [hp]

theorem seqStep_of_emit {s : State} {b : Nat} (hp : s.seqPhase = .spmEmit b) (ho : s.specOk = true)
    (hc : s.cfg.spectralOk = true) : seqStep s = emitStep b s := by
  rw [← withSpectral_of_ok (k := emitStep b) ho hc]
  unfold seqStep
  rw [hp]

theorem seqStep_of_extRun {s : State} (hp : s.seqPhase = .extRun) : seqStep s = extRunStep s := by
  unfold seqStep
  rw [hp]

theorem seqStep_of_ser {s : State} {k : Nat} (hp : s.seqPhase = .ser k) : seqStep s = .next (serCycle s) := by
  unfold seqStep
  rw [hp]

/-! ### The serializer's cycle by sub-phase (R42) -/

theorem serCycle_of_high {s : State} {v : Bool} (hs : s.serSub = .high) (hb : s.serBits[s.serPos]? = some v) :
    serCycle s = highCycle v s := by
  unfold serCycle
  rw [hs, hb]

theorem serCycle_of_low {s : State} {v : Bool} (hs : s.serSub = .low) (hb : s.serBits[s.serPos]? = some v) :
    serCycle s = lowCycle v s := by
  unfold serCycle
  rw [hs, hb]

theorem serCycle_of_gap {s : State} (hs : s.serSub = .gap) : serCycle s = gapCycle s := by
  unfold serCycle
  rw [hs]

/-! ### What no step of SEQ changes -/

/-- SEQ's turn leaves every field but the script. -/
theorem seqTurn_field {α : Type} {s s' : State} (f : State → α)
    (hf : ∀ (u : State) (es : List Event), f { u with script := es } = f u) (h : seqTurn s = some s') :
    f s' = f s := by
  rw [seqTurn_eq h, hf]

/-- A move of SEQ leaves the configuration, MODE, the button's flip-flops, SPEC_OK and the script. -/
theorem SeqMove.fixed {s t : State} (h : SeqMove s t) :
    t.cfg = s.cfg ∧ t.mode = s.mode ∧ t.btnSync = s.btnSync ∧ t.btnPrev = s.btnPrev ∧
      t.specOk = s.specOk ∧ t.script = s.script := by
  cases h with
  | flush _ _ _ _ _ _ _ hs =>
    rcases sendFrame_cases s with ⟨-, e⟩ | ⟨-, e⟩ <;> rw [e] at hs <;> cases hs <;>
      exact ⟨rfl, rfl, rfl, rfl, rfl, rfl⟩
  | command m w q _ _ _ _ _ _ hr =>
    have e := exec_decodeCmd_frame hr
    exact ⟨(congrArg State.cfg e).trans rfl, (congrArg State.mode e).trans rfl,
      (congrArg State.btnSync e).trans rfl, (congrArg State.btnPrev e).trans rfl,
      (congrArg State.specOk e).trans rfl, (congrArg State.script e).trans rfl⟩
  | high => unfold highCycle; split <;> exact ⟨rfl, rfl, rfl, rfl, rfl, rfl⟩
  | low => unfold lowCycle; split <;> (try split) <;> exact ⟨rfl, rfl, rfl, rfl, rfl, rfl⟩
  | _ => simp [emitDone]

end Sys2Proof.Machine
end

