-- ==== Sys2Proof/Tests/Slice0.lean ====
section
/-! SUPPORT. The model's own tests: the well-formedness smoke, words written out from 30_encoding.md, vectors of
95_test_vectors.md by their names there, and one witness for the hypotheses of each statement. -/

namespace Sys2Proof.Machine.Tests

/-! ### Helpers -/

/-- The state of an answer, if it goes on. -/
def after : Result → Option State
  | .next t => some t
  | .fault _ => none
  | .refused _ => none

/-- The fault of an answer. -/
def faultOf : Result → Option Fault
  | .fault r => some r
  | .next _ => none
  | .refused _ => none

/-- The refusal of an answer. -/
def refusalOf : Result → Option Refusal
  | .refused r => some r
  | .next _ => none
  | .fault _ => none

/-- The last response word. -/
def lastResp (s : State) : Option U64 := s.respLog.getLast?.map (·.2)

/-- The response words of two commands run one after the other. -/
def respsOf (i j : Instr) (s : State) : Option (List U64) :=
  (after (thenNext (exec i s) (exec j))).map fun t => t.respLog.map (·.2)

/-- CFG-T at the timing level with short durations. -/
def cfgFast : Config :=
  { Config.small with t0h := 1, t0l := 2, t1h := 2, t1l := 1, tReset := 2, level := .timing }

/-- A one-cell configuration with a transform of length 2 (V-S27). -/
def cfgTwo : Config :=
  { Config.small with
    n := 1, l := 2, window := q15Table [32767, 32767], twc := twc2, tws := tws2, edges := [0, 1] }

/-- CFG-T with R210's hardware column for a word the model's check refuses. -/
def cfgHardware : Config := { Config.small with check := .hardware }

/-- Reset with a configuration, the input level high. -/
def start (c : Config) : State := State.resetWith c true

/-- An external quantum of mode 0 (R190). -/
def inQuantum (c : Config) : State := { start c with grant := .ext 0#32, seqPhase := .extRun }

/-- A spectral pass in phase `p` (R189). -/
def inPass (c : Config) (p : SeqPhase) : State :=
  { start c with grant := .spm, seqPhase := p, mode := 1#32, curMode := 1#32 }

/-! ### Well-formedness: an ill-formed term for each check, which the check refuses -/

theorem test_wf_accepts_setcolor : (Instr.setcolor 11#32 0#8 0#8 255#8).wellFormed 4 = true := by decide
theorem test_wf_accepts_update : (Instr.update 0#56).wellFormed 4 = true := by decide
theorem test_wf_accepts_ext : (Instr.dispatchExt 4#32).wellFormed 5 = true := by decide
theorem test_wf_refuses_defined_as_reserved : (Instr.reserved 5#8 0#56).operandsOk 4 = false := by decide
theorem test_wf_refuses_reserved : (Instr.reserved 6#8 0#56).wellFormed 4 = false := by decide
theorem test_wf_refuses_update_sbz : (Instr.update 1#56).wellFormed 4 = false := by decide
theorem test_wf_refuses_clear_sbz : (Instr.clear 0x100#56).wellFormed 4 = false := by decide
theorem test_wf_refuses_readcolor_sbz : (Instr.readcolor 3#32 1#24).wellFormed 4 = false := by decide
theorem test_wf_refuses_readreg_sbz : (Instr.readreg 0#32 0x800000#24).wellFormed 4 = false := by decide
theorem test_wf_refuses_motion_tilt : Instr.dispatchMotionTilt.wellFormed 0 = false := by decide
theorem test_wf_refuses_spectral : Instr.dispatchSpectral.wellFormed 1 = false := by decide
theorem test_wf_refuses_telemetry : Instr.dispatchTelemetry.wellFormed 2 = false := by decide
theorem test_wf_refuses_placeholder : Instr.dispatchPlaceholder.wellFormed 3 = false := by decide
theorem test_wf_refuses_ext_low : (Instr.dispatchExt 3#32).wellFormed 5 = false := by decide
theorem test_wf_refuses_ext_high : (Instr.dispatchExt 5#32).wellFormed 5 = false := by decide
theorem test_wf_refuses_unreachable_low : (Instr.dispatchUnreachable 3#32).wellFormed 4 = false := by decide

/-! ### Configuration check (R240; V-L10, V-S35 to V-S41) -/

theorem test_cfg_reference : Config.reference.conforming = true ∧ Config.reference.spectralOk = true := by decide
theorem test_cfg_small : Config.small.conforming = true ∧ Config.small.spectralOk = true := by decide
theorem test_cfg_refuses_no_cell : Config.conforming { Config.small with n := 0 } = false := by decide
theorem test_cfg_refuses_three_modes : Config.conforming { Config.small with numModes := 3 } = false := by decide
theorem test_cfg_refuses_wire_order :
    Config.conforming { Config.small with wireOrder := ⟨.g, .r, .g⟩ } = false := by decide
theorem test_cfg_refuses_equal_high : Config.conforming { Config.small with t1h := 16, t1l := 34 } = false := by decide
theorem test_cfg_refuses_period : Config.conforming { Config.small with t1l := 17 } = false := by decide
theorem test_cfg_refuses_no_gap : Config.conforming { Config.small with tReset := 0 } = false := by decide
theorem test_spec_refuses_length : Config.spectralOk { Config.small with l := 12 } = false := by decide
theorem test_spec_refuses_edge_high :
    Config.spectralOk { Config.small with edges := [0, 1, 2, 3, 5] } = false := by decide
theorem test_spec_refuses_edge_order :
    Config.spectralOk { Config.small with edges := [0, 2, 1, 3, 4] } = false := by decide
theorem test_spec_refuses_edge_count :
    Config.spectralOk { Config.small with edges := [0, 1, 2, 3] } = false := by decide
theorem test_spec_refuses_den_zero : Config.spectralOk { Config.small with normDen := 0 } = false := by decide
theorem test_spec_refuses_den_high :
    Config.spectralOk { Config.small with normDen := 281474976710657 } = false := by decide
theorem test_spec_refuses_mask : Config.spectralOk { Config.small with specMask := ⟨1, 2, 1⟩ } = false := by decide

/-! ### Words written out from the encodings (30_encoding.md R81 to R89; V-E1 to V-E18) -/

/-- `OP = 0x01`, `INDEX = 11`, `B = 255` (V-E1), field by field. -/
theorem test_decode_setcolor :
    decodeCmd (0x01#8 ++ 0x0000000B#32 ++ 0x00#8 ++ 0x00#8 ++ 0xFF#8) = .setcolor 11#32 0#8 0#8 255#8 := by decide
/-- V-E4, the channels in their own places. -/
theorem test_decode_setcolor_fields :
    decodeCmd 0x0180000000010203#64 = .setcolor 0x80000000#32 1#8 2#8 3#8 := by decide
theorem test_decode_update : decodeCmd 0x0200000000000000#64 = .update 0#56 := by decide
theorem test_decode_clear : decodeCmd 0x0300000000000000#64 = .clear 0#56 := by decide
theorem test_decode_readcolor : decodeCmd 0x040000000B000000#64 = .readcolor 11#32 0#24 := by decide
theorem test_decode_readreg : decodeCmd 0x05FFFFFFFF000000#64 = .readreg 0xFFFFFFFF#32 0#24 := by decide
theorem test_decode_reserved_zero : decodeCmd 0x0000000000000000#64 = .reserved 0#8 0#56 := by decide
theorem test_decode_reserved_six : decodeCmd 0x0600000000000000#64 = .reserved 6#8 0#56 := by decide
theorem test_decode_reserved_high :
    decodeCmd 0xFF12345678ABCDEF#64 = .reserved 0xFF#8 0x12345678ABCDEF#56 := by decide
/-- V-E16: the hardware ignores a should-be-zero bit. -/
theorem test_decode_update_sbz :
    decodeCmd 0x0200000000000001#64 = .update 1#56 ∧ (decodeCmd 0x0200000000000001#64).refusedByModel = true := by
  decide
theorem test_decode_edges :
    decodeEdge 0b10#2 = some .edgeFall ∧ decodeEdge 0b00#2 = none ∧ decodeEdge 0b01#2 = none ∧
      decodeEdge 0b11#2 = none := by decide
theorem test_decode_motion_tilt : decodeDispatch 4 0x00000000#32 = .dispatchMotionTilt := by decide
theorem test_decode_spectral : decodeDispatch 4 0x00000001#32 = .dispatchSpectral := by decide
theorem test_decode_telemetry : decodeDispatch 4 0x00000002#32 = .dispatchTelemetry := by decide
theorem test_decode_placeholder : decodeDispatch 4 0x00000003#32 = .dispatchPlaceholder := by decide
theorem test_decode_ext : decodeDispatch 5 0x00000004#32 = .dispatchExt 4#32 := by decide
theorem test_decode_unreachable : decodeDispatch 4 0x00000004#32 = .dispatchUnreachable 4#32 := by decide
/-- V-E3, V-E5, V-E6, V-E18. -/
theorem test_assemble :
    (assemble (.setcolor (-1) 1 2 3)).map encode = some (.cmd 0x01FFFFFFFF010203#64) ∧
      (assemble (.setrgb24 3 0x102030)).map encode = some (.cmd 0x0100000003102030#64) ∧
      (assemble (.black 7)).map encode = some (.cmd 0x0100000007000000#64) ∧
      assemble (.setcolor 0 256 0 0) = none := by decide
/-- The opcode table's numbering reaches the same decoder. -/
theorem test_table_words :
    decodeTableWord 64 0x010000000B0000FF = some (.setcolor 11#32 0#8 0#8 255#8) ∧
      decodeTableWord 8 2 = some .edgeFall ∧ decodeTableWord 8 1 = none ∧
      decodeTableWord 32 1 = some .dispatchSpectral ∧
      decodeTableWord 32 4 = some (.dispatchUnreachable 4#32) := by decide

/-! ### A placed word is what the next step runs (log entry 19) -/

theorem test_fetch_setcolor :
    (after (step (State.reset.withFetchWord 64 0x010000000B0000FF))).map (fun t => t.frame[11]?) =
      some (some ⟨0#8, 0#8, 255#8⟩) := by decide
theorem test_fetch_reserved :
    (after (step (State.reset.withFetchWord 64 0x0600000000000000))).map lastResp =
      some (some 0x0000000000000000#64) := by decide
theorem test_fetch_edge :
    (after (step (State.reset.withFetchWord 8 2))).map State.mode = some 1#32 := by decide
theorem test_fetch_spectral :
    (after (step (State.reset.withFetchWord 32 1))).map (fun t => (t.grant, t.seqPhase)) =
      some (.spm, .spmAcquire 0) := by decide
theorem test_fetch_unreachable :
    faultOf (step (State.reset.withFetchWord 32 4)) = some (.unreachableMode 4#32) := by decide

/-! ### Driver commands (V-D1 to V-D20) -/

/-- V-D1, V-D2. -/
theorem test_setcolor_readback :
    respsOf (.setcolor 11#32 0#8 0#8 255#8) (.readcolor 11#32 0#24) (inQuantum Config.reference) =
      some [0x8000000000000000#64, 0xC0000000000000FF#64] := by decide
/-- V-D3, V-D4. -/
theorem test_setcolor_out_of_range :
    (after (thenNext (exec (.setcolor 12#32 1#8 2#8 3#8) (inQuantum Config.reference))
      (exec (.setcolor 0xFFFFFFFF#32 1#8 2#8 3#8)))).map (fun t => (t.frame, t.respLog.map (·.2))) =
      some (List.replicate 12 Color.black, [0x8000000000000000#64, 0x8000000000000000#64]) := by decide
/-- V-D6, V-D7. -/
theorem test_readcolor_miss :
    respsOf (.readcolor 12#32 0#24) (.readcolor 0xFFFFFFFF#32 0#24) (inQuantum Config.reference) =
      some [0x8000000000000000#64, 0x8000000000000000#64] := by decide
/-- V-D8. -/
theorem test_readcolor_black :
    (after (exec (.readcolor 5#32 0#24) (inQuantum Config.reference))).map lastResp =
      some (some 0xC000000000000000#64) := by decide
/-- V-D11, V-D12. -/
theorem test_readreg_sizes :
    respsOf (.readreg 3#32 0#24) (.readreg 6#32 0#24) (inQuantum Config.reference) =
      some [0xC00000000000000C#64, 0x8000000000000000#64] := by decide
/-- V-D19, V-D20. -/
theorem test_readreg_status :
    respsOf (.readreg 2#32 0#24) (.readreg 4#32 0#24) (inQuantum Config.reference) =
      some [0xC000000000000001#64, 0xC000000000000020#64] := by decide
/-- V-D10: one frame of 24 zero bits for each of the 4 cells, and black afterwards. -/
theorem test_clear_frame :
    (after (exec (.clear 0#56)
      { inQuantum Config.small with frame := List.replicate 4 ⟨1#8, 2#8, 3#8⟩ })).map
        (fun t => (t.frame, t.linkLog, lastResp t)) =
      some (List.replicate 4 Color.black, [List.replicate 96 false], some 0x8000000000000000#64) := by decide
/-- V-X4. -/
theorem test_reserved_refused :
    refusalOf (step { inQuantum Config.small with workerQ := [(0#32, .cmd 0x0600000000000000#64)] }) =
      some (.refusedCommand 0x0600000000000000#64) := by decide
/-- V-X5, in the model. -/
theorem test_clear_sbz_refused :
    refusalOf (step { inQuantum Config.small with workerQ := [(0#32, .cmd 0x0300000000000100#64)] }) =
      some (.refusedCommand 0x0300000000000100#64) := by decide
/-- V-D14: on the hardware NAK and nothing changed, and the refusal recorded. -/
theorem test_reserved_nak :
    (after (step { inQuantum cfgHardware with workerQ := [(0#32, .cmd 0x0600000000000000#64)] })).map
        (fun t => (t.frame, lastResp t, t.refusals)) =
      some (List.replicate 4 Color.black, some 0x0000000000000000#64, [0x0600000000000000#64]) := by decide
/-- V-X5: the hardware runs CLEAR, and the refusal is recorded. -/
theorem test_clear_sbz :
    (after (step { inQuantum cfgHardware with workerQ := [(0#32, .cmd 0x0300000000000100#64)] })).map
        (fun t => (t.linkLog.length, lastResp t, t.refusals)) =
      some (1, some 0x8000000000000000#64, [0x0300000000000100#64]) := by decide
/-- V-D15: held outside its quantum. -/
theorem test_held_outside_quantum :
    (after (step { inPass Config.small (.spmAcquire 0) with
      workerQ := [(0#32, .cmd 0x0200000000000000#64)] })).map (fun t => (t.workerQ.length, t.respLog)) =
      some (1, []) := by decide
/-- V-D18. -/
theorem test_readreg_mode :
    respsOf (.readreg 0#32 0#24) (.readreg 1#32 0#24) { inQuantum Config.reference with mode := 1#32 } =
      some [0xC000000000000001#64, 0xC000000000000000#64] := by decide

/-! ### The link (V-L1 to V-L4, V-L9) -/

/-- A 24-bit word as the bits of one cell on the wire. -/
def cellBits (w : BitVec 24) : List Bool := (List.range 24).map fun i => w.getLsbD (23 - i)

theorem test_frame_bits_grb :
    frameBits .grb [⟨0x12#8, 0x34#8, 0x56#8⟩] = cellBits 0x341256#24 := by decide
theorem test_frame_bits_rgb :
    frameBits .rgb [⟨0x12#8, 0x34#8, 0x56#8⟩] = cellBits 0x123456#24 := by decide
theorem test_frame_bits_brg :
    frameBits ⟨.b, .r, .g⟩ [⟨0x12#8, 0x34#8, 0x56#8⟩] = cellBits 0x561234#24 := by decide
/-- V-L4. -/
theorem test_update_two_cells :
    (after (exec (.update 0#56)
      { inQuantum { Config.small with n := 2 } with
        frame := [⟨255#8, 0#8, 0#8⟩, ⟨0#8, 0#8, 255#8⟩] })).map State.linkLog =
      some [cellBits 0x00FF00#24 ++ cellBits 0x0000FF#24] := by decide

/-- R42: `SER_CNT` is 32 bits wide, and the cycles spent go on past its wrap. -/
theorem test_ser_cnt_wraps :
    (serTick { start cfgFast with serCnt := 0xFFFFFFFF#32 }).serCnt = 0#32 ∧
      serElapsed (serTick { start cfgFast with serCnt := 0xFFFFFFFF#32 }) = 4294967296 := by decide

/-! ### Spectral arithmetic (V-S2 to V-S15, V-S21) -/

theorem test_window_vectors :
    (windowed (BitVec.ofInt 16 (-16384)) (BitVec.ofInt 16 32767)).toInt = -16383 ∧
      (windowed (BitVec.ofInt 16 (-32768)) (BitVec.ofInt 16 (-32768))).toInt = 32767 ∧
      (windowed (BitVec.ofInt 16 (-3)) (BitVec.ofInt 16 16384)).toInt = -1 := by decide
theorem test_magnitude_vectors :
    magnitude 98304 131072 = 5 ∧ magnitude (-65536) 0 = 2 ∧ magnitude 32767 0 = 0 := by decide
/-- R153's example. -/
theorem test_dft_example :
    (reStage Config.small (q15Table [16384, 0, -16383, 0, 16384, 0, -16383, 0])).map BitVec.toInt =
      [65534, 0, 2147352578, 0, 65534] := by decide
/-- R158's and R159's examples. -/
theorem test_reduce_example :
    bandStage { Config.small with edges := [0, 2, 3, 3, 4] } (List.replicate 5 32765#64) =
        [32765#64, 32765#64, 0#64, 32765#64] ∧
      bandStage { Config.small with edges := [0, 2, 3, 3, 4], reduce := .sum } (List.replicate 5 32765#64) =
        [65530#64, 32765#64, 0#64, 32765#64] := by decide
/-- R162's example. -/
theorem test_norm_example :
    normStage Config.small [1#64, 0#64, 65532#64, 0#64] = [0#8, 0#8, 254#8, 0#8] := by decide
/-- V-S21, the tone at bin 2, stage by stage. -/
theorem test_tone_window :
    windowStage Config.small (q15Table [16384, 0, -16384, 0, 16384, 0, -16384, 0]) =
      q15Table [16384, 0, -16383, 0, 16384, 0, -16383, 0] := by decide
set_option maxRecDepth 4000 in
theorem test_tone_magnitude :
    magStage [65534#64, 0#64, 2147352578#64, 0#64, 65534#64] (List.replicate 5 0#64) =
      [1#64, 0#64, 65532#64, 0#64, 1#64] := by decide
/-- V-X3: with no sample delivered SEQ waits. -/
theorem test_acquire_waits :
    (after (step (inPass Config.small (.spmAcquire 3)))).map State.seqPhase = some (.spmAcquire 3) := by decide
/-- R48: a read of an element no stage has written. -/
theorem test_unwritten_element :
    faultOf (step (inPass Config.small .spmWindow)) = some (.unreachableElement .sb 0) := by decide
/-- V-S35: an empty spectral quantum. -/
theorem test_spec_off :
    (after (step { start { Config.small with l := 12 } with mode := 1#32 })).map
        (fun t => (t.seqPhase, t.grant, t.linkLog)) = some (.boundary, .none, []) := by decide

/-- R141: a spectral phase with SPEC_OK = 0 takes no sample and goes to the quantum end. -/
theorem test_gate_in_pass :
    (after (step { inPass { Config.small with l := 12 } (.spmAcquire 0) with sampleQ := [1#16] })).map
        (fun t => (t.seqPhase, t.grant, t.sampleQ)) = some (.boundary, .none, [1#16]) := by decide
/-- R115, R120: with no bit left to send the latch gap begins. -/
theorem test_gap_begins :
    (after (step { inQuantum cfgFast with seqPhase := .ser 0, serSub := .high, linkOut := true, busy := true })).map
        (fun t => (t.serSub, t.linkOut)) = some (.gap, false) := by decide

/-! ### Scheduler and arbiter (V-M1 to V-M13) -/

/-- V-M1, V-M2. -/
theorem test_edge_wraps :
    (after (exec .edgeFall { start Config.small with mode := 3#32 })).map State.mode = some 0#32 ∧
      (after (exec .edgeFall (start Config.small))).map State.mode = some 1#32 := by decide
/-- V-M3: a rising edge does nothing. -/
theorem test_rising_edge :
    (after (step { start Config.small with
      mode := 2#32, btnSync := false, script := [.pin true] })).map State.mode = some 2#32 := by decide
/-- V-M7. -/
theorem test_boundary_latch :
    (after (step { start Config.small with mode := 2#32 })).map (fun t => (t.curMode, t.grant, t.seqPhase)) =
      some (2#32, .ext 2#32, .extRun) := by decide
theorem test_motion_tilt :
    (after (exec .dispatchMotionTilt (start Config.small))).map (fun t => (t.grant, t.startLog)) =
      some (.ext 0#32, [0#32]) := by decide
theorem test_placeholder :
    (after (exec .dispatchPlaceholder (start Config.small))).map (fun t => (t.grant, t.startLog)) =
      some (.ext 3#32, [3#32]) := by decide
theorem test_ext :
    (after (exec (.dispatchExt 4#32) (start Config.small))).map (fun t => (t.grant, t.startLog)) =
      some (.ext 4#32, [4#32]) := by decide
/-- V-M11: a button held low through reset gives no edge; the press after its release does. -/
theorem test_reset_edge :
    (after (runSteps 3 { State.resetWith Config.small false with
      script := [.pin false, .pin true, .pin false] })).map State.mode = some 1#32 := by decide
/-- V-M12. -/
theorem test_unreachable_mode :
    faultOf (step { start Config.small with mode := 7#32 }) = some (.unreachableMode 7#32) := by decide
/-- V-M13. -/
theorem test_empty_quantum :
    (after (step { inQuantum Config.small with workerQ := [(0#32, .done)] })).map
        (fun t => (t.seqPhase, t.grant, t.linkLog)) = some (.boundary, .none, []) := by decide

/-! ### Witnesses: a concrete state and operands that meet the hypotheses of each statement -/

/-- The invariant of a state in phase `p`, with no frame in flight and no response pending, from its parts. -/
theorem inv_of_idle {s : State} (p : SeqPhase) (conf : s.cfg.conforming = true)
    (mode : s.mode.toNat < s.cfg.numModes ∧ s.curMode.toNat < s.cfg.numModes) (spec : s.specOk = s.cfg.spectralOk)
    (quiet : s.busy = false ∧ s.linkOut = false ∧ s.spmResp = none ∧ s.clean = true) (phase : s.seqPhase = p)
    (idle : ∀ k, p ≠ .ser k) (shape : ShapeOk s) (work : phaseOk s p)
    (samples : s.sampleQ = [] ∨ ∃ j, p = .spmAcquire j ∧ j < s.cfg.l) : Inv s where
  conforming := conf
  mode := mode.1
  curMode := mode.2
  specOk := spec
  busy := by simp [quiet.1, phase, idle]
  idle := fun _ => quiet.2.1
  shape := shape
  phase := by
    have h : workPhase s = p := by
      unfold workPhase
      rw [phase]
      cases p <;> first | rfl | exact absurd rfl (idle _)
    rw [h]
    exact work
  ser := fun k hk => absurd (phase.symm.trans hk) (idle k)
  resp := by simp [quiet.2.2.1]
  clean := fun _ => quiet.2.2.2
  samples := fun h => by
    rw [phase]
    exact samples.resolve_left h

/-- A mode-0 quantum of CFG-T, the worker's first command waiting. -/
def quantumState : State := { inQuantum Config.small with workerQ := [(0#32, .cmd 0x0300000000000000#64)] }

/-- A mode-0 quantum at the timing level. -/
def fastState : State := inQuantum cfgFast

/-- A spectral pass of CFG-T with its eight samples delivered. -/
def passState (x : List Q15) : State := { inPass Config.small (.spmAcquire 0) with sampleQ := x }

/-- The last cell of an emit stage. -/
def emitState : State :=
  { inPass Config.small (.spmEmit 3) with inten := [some 0#8, some 1#8, some 254#8, some 255#8] }

theorem witness_inv_boundary : Inv (start Config.small) :=
  inv_of_idle .boundary (by decide) (by decide) rfl ⟨rfl, rfl, rfl, rfl⟩ rfl nofun
    (by constructor <;> simp [start, State.resetWith]) rfl (.inl rfl)

theorem witness_inv_quantum : Inv quantumState :=
  inv_of_idle .extRun (by decide) (by decide) rfl ⟨rfl, rfl, rfl, rfl⟩ rfl nofun
    (by constructor <;> simp [quantumState, inQuantum, start, State.resetWith]) rfl (.inl rfl)

theorem witness_inv_pass (x : List Q15) : Inv (passState x) :=
  inv_of_idle (.spmAcquire 0) (by decide : Config.small.conforming = true)
    (by decide : 1 < Config.small.numModes ∧ 1 < Config.small.numModes)
    (rfl : Config.small.spectralOk = Config.small.spectralOk) ⟨rfl, rfl, rfl, rfl⟩ rfl nofun
    (by constructor <;> simp [passState, inPass, start, State.resetWith])
    ⟨rfl, (by decide : Config.small.spectralOk = true), Nat.zero_le _, rfl⟩
    (.inr ⟨0, rfl, (by decide : 0 < Config.small.l)⟩)

theorem witness_inv_emit : Inv emitState :=
  inv_of_idle (.spmEmit 3) (by decide) (by decide) rfl ⟨rfl, rfl, rfl, rfl⟩ rfl nofun
    (by constructor <;> simp [emitState, inPass, start, State.resetWith, Config.small])
    ⟨rfl, by decide, by decide, rfl⟩ (.inl rfl)

/-- A frame in flight meets the invariant too. -/
theorem witness_inv_frame : Inv (startFrame fastState) where
  conforming := by decide
  mode := by decide
  curMode := by decide
  specOk := by decide
  busy := by simp
  idle := by simp
  shape := ⟨rfl, rfl, rfl, rfl, rfl, rfl, rfl, rfl, by simp [fastState, inQuantum, start, State.resetWith]⟩
  phase := rfl
  ser := fun k hk => by
    obtain rfl : 0 = k := by simpa using hk
    exact ⟨rfl, rfl, rfl, .inl rfl, fun _ => by decide, by simp, by simp,
      fun v _ => ⟨fun _ => highTime_pos (by decide) v, by simp⟩, by simp⟩
  resp := by simp [fastState, inQuantum, start, State.resetWith]
  clean := fun _ => rfl
  samples := by simp [fastState, inQuantum, start, State.resetWith]

/-- Operands at the ends of their rows' ranges (DecodeOfEncode). -/
theorem witness_operands :
    (Instr.reserved 0#8 0#56).operandsOk 4 = true ∧ (Instr.reserved 6#8 0#56).operandsOk 4 = true ∧
      (Instr.reserved 0xFF#8 0#56).operandsOk 4 = true ∧ (Instr.dispatchExt 4#32).operandsOk 5 = true ∧
      (Instr.dispatchUnreachable 4#32).operandsOk 4 = true ∧
      (Instr.dispatchUnreachable 0xFFFFFFFF#32).operandsOk 4 = true := by decide

/-- A code of each format (EncodeOfDecode); the mode count at its least (DecodeIsTotal). -/
theorem witness_decodes :
    decode 4 (.cmd 0x0600000000000000#64) = .ok (.reserved 6#8 0#56) ∧ decode 4 (.edge 2#2) = .ok .edgeFall ∧
      decode 4 (.dispatch 3#32) = .ok .dispatchPlaceholder ∧ 4 ≤ Config.reference.numModes :=
  ⟨rfl, rfl, rfl, by decide⟩

/-- Assembler operands at the ends of their ranges, inside and outside (AssemblerGivesWords). -/
theorem witness_assembler :
    (assemble (.setcolor (-2147483648) 255 0 0)).isSome = true ∧ assemble (.setcolor 2147483648 0 0 0) = none ∧
      (assemble (.readcolor 2147483647)).isSome = true ∧ assemble (.readcolor (-2147483649)) = none ∧
      (assemble (.readreg 4294967295)).isSome = true ∧ assemble (.readreg 4294967296) = none := by decide

/-- A mode-0 quantum under `check`, another worker's command before the holder's word `w`, and DONE after it. -/
def wordState (check : CommandCheck) (w : U64) : State :=
  { inQuantum { Config.small with check := check } with
    workerQ := [(2#32, .cmd 0#64), (0#32, .cmd w), (0#32, .done)] }

/-- StepRunsPresentedCommand: the hypotheses both clauses share, and a word for each: one the check accepts, and one it
refuses, under either reading of R210. -/
theorem witness_StepRunsPresentedCommand (check : CommandCheck) (w : U64) :
    (wordState check w).cfg.conforming = true ∧ seqTurn (wordState check w) = some (wordState check w) ∧
      (wordState check w).seqPhase = .extRun ∧ (wordState check w).grant = .ext 0#32 ∧
      (wordState check w).busy = false ∧
      (wordState check w).workerQ = [(2#32, .cmd 0#64)] ++ (0#32, .cmd w) :: [(0#32, .done)] ∧
      (∀ p ∈ [((2#32 : U32), WorkerMsg.cmd 0#64)], p.1 ≠ 0#32) ∧
      (wordState check w).cfg.check = check ∧ (decodeCmd 0x0300000000000000#64).refusedByModel = false ∧
      (decodeCmd 0x0300000000000001#64).refusedByModel = true :=
  ⟨(by decide : Config.small.conforming = true), rfl, rfl, rfl, rfl, rfl, by decide, rfl, by decide, by decide⟩

/-- RefusalsAreKept: a step that records a word. -/
theorem witness_RefusalsAreKept :
    (after (step (wordState .hardware 0x0600000000000000#64))).map State.refusals =
      some [0x0600000000000000#64] := by decide

/-- A mode-0 quantum whose worker is done, another worker's command still held. -/
def doneState : State :=
  { inQuantum Config.small with workerQ := [(2#32, .cmd 0#64), (0#32, .done)] }

/-- DoneEndsQuantum. -/
theorem witness_DoneEndsQuantum :
    doneState.cfg.conforming = true ∧ seqTurn doneState = some doneState ∧ doneState.seqPhase = .extRun ∧
      doneState.grant = .ext 0#32 ∧ doneState.busy = false ∧
      doneState.workerQ = [(2#32, .cmd 0#64)] ++ (0#32, .done) :: [] ∧
      (∀ p ∈ [((2#32 : U32), WorkerMsg.cmd 0#64)], p.1 ≠ 0#32) :=
  ⟨by decide, rfl, rfl, rfl, rfl, rfl, by decide⟩

/-- The button about to be sampled at a level, seen high before. -/
def pinState (level : Bool) : State := { start Config.small with script := [.pin level] }

/-- StepRunsEdgePair, a falling edge and a level that stays high; ArbTouchesOnlyModeAndButton. -/
theorem witness_StepRunsEdgePair :
    (pinState false).cfg.conforming = true ∧ (pinState false).script = [.pin false] ∧
      (pinState false).btnSync = true ∧ (after (step (pinState false))).map State.mode = some 1#32 ∧
      (pinState true).script = [.pin true] ∧ (after (step (pinState true))).map State.mode = some 0#32 := by decide

/-- StepDispatchesLatchedMode; UnreachableModeFaults at the first unreachable mode. -/
theorem witness_boundary :
    ∃ s : State, s = { start Config.small with mode := 4#32 } ∧ seqTurn s = some s ∧ s.seqPhase = .boundary ∧
      s.cfg.conforming = true ∧ s.cfg.numModes ≤ s.mode.toNat :=
  ⟨_, rfl, rfl, rfl, by decide, by decide⟩

/-- StepIsNextEvent: each event, and a sample at both ends of the acquisition. -/
theorem witness_StepIsNextEvent :
    (after (step { inPass Config.small (.spmAcquire 7) with script := [.sample 5#16] })).map State.sampleQ =
        some [5#16] ∧
      (after (step { inPass Config.small (.spmAcquire 8) with script := [.sample 5#16] })).map State.sampleQ =
        some [] ∧
      (after (step { start Config.small with script := [.present 0#32 .done] })).map State.workerQ =
        some [(0#32, .done)] ∧
      (after (step { inQuantum Config.small with script := [.reset false] })).map State.grant =
        some .none := by decide

/-- CommandHeldOutsideGrant: the worker of another mode. -/
theorem witness_CommandHeldOutsideGrant :
    (after (step quantumState)).isSome = true ∧ quantumState.script = [] ∧ quantumState.grant ≠ .ext 2#32 := by
  decide

/-- WaitsExactlyForSampleOrWorker: both waits, at both ends of the acquisition. -/
theorem witness_WaitsExactly :
    Inv (passState []) ∧ step (passState []) = .next (passState []) ∧
      (after (step (inPass Config.small (.spmAcquire 7)))).map State.seqPhase = some (.spmAcquire 7) ∧
      (after (step (inPass Config.small (.spmAcquire 8)))).map State.seqPhase = some .spmWindow ∧
      (after (step (inQuantum Config.small))).map State.seqPhase = some .extRun :=
  ⟨witness_inv_pass [], rfl, by decide, by decide, by decide⟩

/-- The statements about every step that goes on: one goes on, from each kind of event, and the reset input is not among
them. -/
theorem witness_step_goes_on :
    ∃ t, step quantumState = .next t ∧ quantumState.script = [] ∧ t.frame = quantumState.frame :=
  ⟨_, rfl, rfl, rfl⟩

/-- The cell indices at the ends of the range and outside it (SetcolorWritesOneCell, ReadcolorAnswersCell,
ReadbackAfterSetcolor, ReadbackAfterClear). -/
theorem witness_index :
    frameWf quantumState = true ∧ idxInRange quantumState 0#32 ∧ idxInRange quantumState 3#32 ∧
      ¬ idxInRange quantumState 4#32 ∧ ¬ idxInRange quantumState 0xFFFFFFFF#32 ∧
      ¬ idxInRange quantumState 0x80000000#32 := by
  refine ⟨by decide, ?_, ?_, ?_, ?_, ?_⟩ <;> unfold idxInRange <;> decide

/-- ReadregAnswersRegister: the last register, the first id without one, and the largest id. -/
theorem witness_readreg :
    readReg quantumState 5#32 = some 4#32 ∧ readReg quantumState 6#32 = none ∧
      readReg quantumState 0xFFFFFFFF#32 = none := by decide

/-- UpdateSendsFrame and ClearBlacksAndSends at the operation level; SerializerRefinesOneStep at the timing level. -/
theorem witness_levels :
    quantumState.cfg.level = .operation ∧ frameWf quantumState = true ∧ fastState.cfg.level = .timing ∧
      fastState.cfg.conforming = true ∧ fastState.script = [] ∧ frameWf fastState = true := by decide

/-- FrameBitsOrder and FrameBitsDetermineCells: the first and the last cell, and a permutation. -/
theorem witness_frame_bits :
    ([⟨1#8, 2#8, 3#8⟩, ⟨4#8, 5#8, 6#8⟩] : List Color)[0]? = some ⟨1#8, 2#8, 3#8⟩ ∧
      ([⟨1#8, 2#8, 3#8⟩, ⟨4#8, 5#8, 6#8⟩] : List Color)[1]? = some ⟨4#8, 5#8, 6#8⟩ ∧
      WireOrder.grb.isPermutation = true := by decide

/-- BitEnvelope, at the first bit of a frame and at the last. -/
theorem witness_BitEnvelope :
    (startFrame fastState).cfg.conforming = true ∧ (startFrame fastState).script = [] ∧
      (startFrame fastState).seqPhase = .ser (startFrame fastState).serPos ∧
      (startFrame fastState).serSub = .high ∧ (startFrame fastState).serCnt = 0#32 ∧
      (startFrame fastState).serWraps = 0 ∧
      (startFrame fastState).linkOut = true ∧
      (startFrame fastState).serBits[(startFrame fastState).serPos]? = some false ∧
      (startFrame fastState).serBits[95]? = some false ∧ (startFrame fastState).serBits[96]? = none := by decide

/-- LatchGapThenCompletion. -/
theorem witness_LatchGap :
    (sentFrame (startFrame fastState)).cfg.conforming = true ∧ (sentFrame (startFrame fastState)).script = [] ∧
      (sentFrame (startFrame fastState)).seqPhase = .ser 96 ∧ (sentFrame (startFrame fastState)).serSub = .gap ∧
      (sentFrame (startFrame fastState)).serCnt = 0#32 ∧ (sentFrame (startFrame fastState)).serWraps = 0 ∧
      (sentFrame (startFrame fastState)).linkOut = false ∧
      (sentFrame (startFrame fastState)).busy = true ∧
      (sentFrame (startFrame fastState)).serRet = .extRun := by decide

/-- LinkRisesOnlyAtBitStart: a step that raises the line, and one that ends idle. -/
theorem witness_LinkRises :
    (after (step { fastState with workerQ := [(0#32, .cmd 0x0200000000000000#64)] })).map State.linkOut =
        some true ∧ fastState.linkOut = false ∧
      Inv quantumState ∧ (after (step quantumState)).map State.busy = some false :=
  ⟨by decide, by decide, witness_inv_quantum, by decide⟩

/-- NoPartialFrame: a frame in flight, and a step that completes one. -/
theorem witness_NoPartialFrame :
    Inv (startFrame fastState) ∧ (startFrame fastState).busy = true ∧
      (after (step (startFrame fastState))).isSome = true ∧ Inv quantumState ∧
      (after (step quantumState)).map (fun t => t.linkLog.length) = some 1 :=
  ⟨witness_inv_frame, rfl, by decide, witness_inv_quantum, by decide⟩

/-- FrameWrittenOnlyByCommands: a step that changes the Frame. -/
theorem witness_FrameWritten :
    (after (step { quantumState with workerQ := [(0#32, .cmd 0x0100000000010203#64)] })).map State.frame ≠
      some quantumState.frame := by decide

/-- EdgeFallIncrementsMode and EdgeCountLaw. -/
theorem witness_edge : (start Config.small).cfg.conforming = true ∧ (start Config.small).mode = 0#32 := by decide

/-- InvStopsOnlyOnRefusedCommand: a state that meets the invariant and stops, and, under R210's hardware column, goes on. -/
theorem witness_InvStopsOnlyOnRefusedCommand (check : CommandCheck) :
    Inv (wordState check 0x0600000000000000#64) ∧
      refusalOf (step (wordState .refuse 0x0600000000000000#64)) = some (.refusedCommand 0x0600000000000000#64) ∧
      (after (step (wordState .hardware 0x0600000000000000#64))).isSome = true :=
  ⟨inv_of_idle .extRun (by decide : Config.small.conforming = true)
    (by decide : 0 < Config.small.numModes ∧ 0 < Config.small.numModes)
    rfl ⟨rfl, rfl, rfl, rfl⟩ rfl nofun
    (by constructor <;> simp [wordState, inQuantum, start, State.resetWith]) rfl (.inl rfl), by decide, by decide⟩

/-- EveryFallingEdgeCounts: a script with two falling edges and no reset; the state of
`witness_InvStopsOnlyOnRefusedCommand` stops in it. -/
theorem witness_EveryFallingEdgeCounts :
    Inv { start Config.small with script := [.pin false, .seq, .pin true, .pin false] } ∧
      noReset [.pin false, .seq, .pin true, .pin false] = true ∧
      fallingEdges true [.pin false, .seq, .pin true, .pin false] = 2 :=
  ⟨inv_of_idle .boundary (by decide) (by decide) rfl ⟨rfl, rfl, rfl, rfl⟩ rfl nofun
    (by constructor <;> simp [start, State.resetWith]) rfl (.inl rfl), by decide, by decide⟩

/-- OnlyArbWritesMode: a sample that is no falling edge, and a step that is no sample. -/
theorem witness_OnlyArbWritesMode :
    (after (step { start Config.small with btnSync := false, script := [.pin false] })).isSome = true ∧
      (after (step { start Config.small with script := [.seq] })).isSome = true := by decide

/-- CurModeLatchedOnlyAtBoundary: a step that latches a new mode. -/
theorem witness_CurMode :
    (after (step { start Config.small with mode := 3#32 })).map State.curMode = some 3#32 := by decide

/-- ModeChangeDoesNotDisturbPass: a step of a pass, and one that faults. -/
theorem witness_ModeChange :
    (after (seqStep (passState [1#16]))).isSome = true ∧ (passState [1#16]).seqPhase ≠ .boundary ∧
      (passState [1#16]).seqPhase ≠ .extRun ∧
      faultOf (seqStep (inPass Config.small .spmWindow)) = some (.unreachableElement .sb 0) := by decide

/-- ExternalDispatchStartsWorker and SpectralDispatch: each case has its instruction and its state. -/
theorem witness_dispatch :
    (start Config.small).specOk = true ∧ (start { Config.small with l := 12 }).specOk = false := by decide

/-- AcquireTakesOneSample: the first and the last sample, and the end of the acquisition. -/
theorem witness_Acquire :
    (inPass Config.small (.spmAcquire 0)).specOk = true ∧ Config.small.spectralOk = true ∧
      (inPass Config.small (.spmAcquire 0)).sb.length = Config.small.l ∧
      (after (seqStep { inPass Config.small (.spmAcquire 0) with sampleQ := [1#16, 2#16] })).map
        (fun t => (t.sb[0]?, t.sampleQ)) = some (some (some 1#16), [2#16]) ∧
      (after (seqStep { inPass Config.small (.spmAcquire 7) with sampleQ := [1#16, 2#16] })).map
        (fun t => (t.sb[7]?, t.sampleQ)) = some (some (some 1#16), []) ∧
      (after (seqStep (inPass Config.small (.spmAcquire 8)))).map State.seqPhase = some .spmWindow := by decide

/-- WindowStageComputes. -/
theorem witness_Window :
    ∃ (s : State) (x : List Q15), s = { inPass Config.small .spmWindow with sb := x.map some } ∧
      s.specOk = true ∧ s.cfg.spectralOk = true ∧ s.seqPhase = .spmWindow ∧ s.sb = x.map some ∧
      x.length = s.cfg.l ∧ x[7]? = some 0x8000#16 :=
  ⟨_, List.replicate 8 0x8000#16, rfl, by decide, by decide, rfl, rfl, rfl, rfl⟩

/-- DftStageIsExact. -/
theorem witness_Dft :
    ∃ (s : State) (x : List Q15), s = { inPass Config.small .spmDft with xw := x.map some } ∧
      s.specOk = true ∧ s.cfg.spectralOk = true ∧ s.seqPhase = .spmDft ∧ s.xw = x.map some ∧
      x.length = s.cfg.l :=
  ⟨_, List.replicate 8 0x8000#16, rfl, by decide, by decide, rfl, rfl, rfl⟩

/-- MagnitudeIsFloorOfLength at the largest bins. -/
theorem witness_Magnitude :
    ∃ (s : State) (x y : List U64),
      s = { inPass Config.small .spmMag with re := x.map some, im := y.map some } ∧
      s.specOk = true ∧ s.cfg.spectralOk = true ∧ s.seqPhase = .spmMag ∧ s.re = x.map some ∧
      s.im = y.map some ∧ x.length = s.cfg.l / 2 + 1 ∧ y.length = s.cfg.l / 2 + 1 ∧
      ∀ v ∈ x ++ y, |v.toInt| ≤ 2 ^ 46 :=
  ⟨_, List.replicate 5 (BitVec.ofInt 64 (2 ^ 46)), List.replicate 5 (BitVec.ofInt 64 (-(2 ^ 46))), rfl,
    by decide, by decide, rfl, rfl, rfl, rfl, rfl, by simp⟩

/-- PeakReduction and SumReduction at the largest magnitudes, a band's bin and the bin after it. -/
theorem witness_Reduce (r : Reduce) :
    ∃ (s : State) (x : List U64),
      s = { inPass { Config.small with reduce := r } .spmReduce with mag := x.map some } ∧
      s.specOk = true ∧ s.cfg.spectralOk = true ∧ s.seqPhase = .spmReduce ∧ s.cfg.reduce = r ∧
      s.mag = x.map some ∧ x.length = s.cfg.l / 2 + 1 ∧ (∀ m ∈ x, m.toNat < 2 ^ 32) ∧
      s.cfg.edges.getD 3 0 = 3 ∧ s.cfg.edges.getD (3 + 1) 0 = 4 ∧ x[3]? = some 0xFFFFFFFF#64 ∧
      x[4]? = some 0xFFFFFFFF#64 :=
  ⟨_, List.replicate 5 0xFFFFFFFF#64, rfl, by cases r <;> decide,
    by cases r <;> decide, rfl, rfl, rfl, by cases r <;> rfl, by simp, rfl, rfl, rfl, rfl⟩

/-- NormaliseScalesAndClamps below the clamp, at it, and at 0. -/
theorem witness_Normalise :
    ∃ (s : State) (x : List U64), s = { inPass Config.small .spmNorm with band := x.map some } ∧
      s.specOk = true ∧ s.cfg.spectralOk = true ∧ s.seqPhase = .spmNorm ∧ s.band = x.map some ∧
      x.length = s.cfg.n ∧ x = [0#64, 65535#64, 65536#64, 0xFFFFFFFFFFFF#64] :=
  ⟨_, [0#64, 65535#64, 65536#64, 0xFFFFFFFFFFFF#64], rfl, by decide, by decide, rfl, rfl, rfl, rfl⟩

/-- EmitWritesBandColour at the last cell. -/
theorem witness_Emit :
    Inv emitState ∧ emitState.seqPhase = .spmEmit 3 ∧ 3 < emitState.cfg.n ∧
      emitState.inten[3]? = some (some 255#8) :=
  ⟨witness_inv_emit, rfl, by decide, rfl⟩

/-- SpectralPassEndToEnd and SilenceTurnsAllOff. -/
theorem witness_pass :
    Inv (passState (List.replicate 8 0#16)) ∧ (passState (List.replicate 8 0#16)).cfg.level = .operation ∧
      (passState (List.replicate 8 0#16)).script = [] ∧
      (passState (List.replicate 8 0#16)).seqPhase = .spmAcquire 0 ∧
      (passState (List.replicate 8 0#16)).sampleQ = List.replicate Config.small.l 0#16 :=
  ⟨witness_inv_pass _, rfl, rfl, rfl, rfl⟩

/-! ### Endless runs (R63, R254) -/

/-- A run that is at `s`, and at `t` from its first step on. -/
def settling (s t : State) : Nat → State
  | 0 => s
  | _ + 1 => t

theorem settling_endless {s t : State} (h : step (s.withEvent .seq) = .next t)
    (ht : step (t.withEvent .seq) = .next t) : EndlessRun (fun _ => .seq) (settling s t)
  | 0 => h
  | _ + 1 => ht

/-- Every step is SEQ's: the stream is weakly fair. -/
theorem seq_fair (σ : Nat → State) : weaklyFair (fun _ => .seq) σ := fun n => ⟨n, le_rfl, .inl rfl⟩

/-- FairRunMakesProgress: fair endless runs from a boundary, and from a quantum in which a READREG waits. -/
theorem witness_FairRunMakesProgress :
    (∃ e σ, EndlessRun e σ ∧ weaklyFair e σ ∧ Inv (σ 0) ∧ (σ 0).seqPhase = .boundary) ∧
    (∃ e σ, EndlessRun e σ ∧ weaklyFair e σ ∧ Inv (σ 0) ∧ (∀ n level, e n ≠ .reset level) ∧
      (σ 0).seqPhase = .extRun ∧
      takeMessage (σ 0).curMode (σ 0).workerQ = some (.cmd 0x0500000003000000#64, [])) :=
  ⟨⟨_, settling (start Config.small) { inQuantum Config.small with startLog := [0#32] },
      settling_endless rfl rfl, seq_fair _, witness_inv_boundary, rfl⟩,
    ⟨_, settling { inQuantum Config.small with workerQ := [(0#32, .cmd 0x0500000003000000#64)] }
        { inQuantum Config.small with respLog := [(.ext 0#32, 0xC000000000000004#64)] },
      settling_endless rfl rfl, seq_fair _,
      inv_of_idle .extRun (by decide) (by decide) rfl ⟨rfl, rfl, rfl, rfl⟩ rfl nofun
        (by constructor <;> simp [settling, inQuantum, start, State.resetWith]) rfl (.inl rfl),
      nofun, rfl, rfl⟩⟩

/-- The state after `n` samples in a quantum of CFG-T, the input low and high in turn. -/
def toggled (n : Nat) : State :=
  { inQuantum Config.small with
    btnSync := n % 2 == 0, btnPrev := n % 2 == 1, mode := BitVec.ofNat 32 ((n + 1) / 2 % 4) }

theorem toggled_mod (n : Nat) : toggled n = toggled (n % 8) := by
  unfold toggled
  rw [show n % 8 % 2 = n % 2 by omega, show (n % 8 + 1) / 2 % 4 = (n + 1) / 2 % 4 by omega]

theorem toggled_endless : EndlessRun (fun n => .pin (n % 2 == 1)) toggled := by
  have h : ∀ k < 8, step ((toggled k).withEvent (.pin (k % 2 == 1))) = .next (toggled (k + 1)) := by
    intro k hk
    interval_cases k <;> rfl
  intro n
  have hn := h (n % 8) (Nat.mod_lt _ (by decide))
  rwa [show n % 8 % 2 = n % 2 by omega, ← toggled_mod, toggled_mod (n % 8 + 1),
    show (n % 8 + 1) % 8 = (n + 1) % 8 by omega, ← toggled_mod] at hn

/-- EndlessRunCountsEveryEdge: falling edges without end. SEQ never steps, and waits throughout, so the run is weakly fair. -/
theorem witness_EndlessRunCountsEveryEdge :
    EndlessRun (fun n => .pin (n % 2 == 1)) toggled ∧ weaklyFair (fun n => .pin (n % 2 == 1)) toggled ∧
      Inv (toggled 0) ∧ fallingEdges (toggled 0).btnSync (firstEvents (fun n => .pin (n % 2 == 1)) 7) = 4 ∧
      Inv (start cfgHardware) ∧ (start cfgHardware).cfg.check = .hardware :=
  ⟨toggled_endless, fun n => ⟨n, le_rfl, .inr ⟨nofun, rfl⟩⟩,
    inv_of_idle .extRun (by decide) (by decide) rfl ⟨rfl, rfl, rfl, rfl⟩ rfl nofun
      (by constructor <;> simp [toggled, inQuantum, start, State.resetWith]) rfl (.inl rfl),
    by decide,
    inv_of_idle .boundary (by decide) (by decide) rfl ⟨rfl, rfl, rfl, rfl⟩ rfl nofun
      (by constructor <;> simp [start, State.resetWith, cfgHardware]) rfl (.inl rfl), rfl⟩

end Sys2Proof.Machine.Tests
end

section
/-! PROOFS. The configuration record of 00_scope.md R9 is fixed: every step that goes on keeps it. -/

namespace Sys2Proof.Machine

@[simp] theorem resetInput_cfg (level : Bool) (s : State) : (resetInput level s).cfg = s.cfg := rfl

/-- SEQ keeps the configuration, from the state before its turn. -/
theorem seqStep_cfg {s s' t : State} (turn : seqTurn s = some s') (run : seqStep s' = .next t) :
    t.cfg = s.cfg := by
  obtain ⟨hcfg, -⟩ := (seqStep_move run).fixed
  exact hcfg.trans (seqTurn_field State.cfg (fun _ _ => rfl) turn)

/-- Settles O57, by the kind of the step: SEQ's move, ARB's sample, or an event at a port. The reset input builds the
block's state anew, from the same configuration (R241). -/
theorem configurationNeverChanges : Obligations.ConfigurationNeverChanges := by
  intro s t h
  rcases step_cases h with ⟨s', turn, run⟩ | ⟨level, rest, -, rfl⟩ | ⟨v, rest, -, rfl⟩ |
    ⟨m, msg, rest, -, rfl⟩ | ⟨level, rest, -, rfl⟩
  · exact seqStep_cfg turn run
  · split <;> simp
  · simp
  · simp
  · simp

end Sys2Proof.Machine
end

section
/-! PROOFS. The invariant (10_state.md R31, R35, R37, R40, R42, R45 to R50): it holds at reset, and every step keeps it. `IdleOk` is the
part of `Inv` that no rule of a phase names; a state in which no frame is in flight is shown to meet `Inv` from `IdleOk` and its
phase's own rule, and one with a frame in flight from the serializer's registers. -/

namespace Sys2Proof.Machine

/-! ### The invariant with no frame in flight -/

/-- What the invariant asks of a state with no frame in flight, whatever its phase. -/
structure IdleOk (s : State) : Prop where
  conforming : s.cfg.conforming = true
  mode : s.mode.toNat < s.cfg.numModes
  curMode : s.curMode.toNat < s.cfg.numModes
  specOk : s.specOk = s.cfg.spectralOk
  free : s.busy = false
  line : s.linkOut = false
  shape : ShapeOk s
  clean : s.cfg.check = .refuse → s.clean = true

/-- SEQ works in its own phase while no frame is in flight. -/
theorem workPhase_of_not_ser {s : State} (idle : ∀ k, s.seqPhase ≠ .ser k) : workPhase s = s.seqPhase := by
  unfold workPhase
  split
  · exact absurd ‹_› (idle _)
  · rfl

/-- No phase rule holds of the serializer's phases. -/
theorem phaseOk_not_ser {s : State} {p : SeqPhase} (h : phaseOk s p) (k : Nat) : p ≠ .ser k := by
  rintro rfl
  exact h

/-- The rule of a phase reads nothing that a command or a cycle of the serializer writes. -/
theorem phaseOk_of_unread {s t : State} {p : SeqPhase}
    (frame : t = { s with
      frame := t.frame, busy := t.busy, seqPhase := t.seqPhase, serBits := t.serBits, serPos := t.serPos
      serRet := t.serRet, serCnt := t.serCnt, serWraps := t.serWraps, serSub := t.serSub, linkOut := t.linkOut
      linkLog := t.linkLog, respLog := t.respLog, spmResp := t.spmResp })
    (h : phaseOk s p) : phaseOk t p := by
  rw [frame]
  cases p <;> exact h

theorem Inv.busy_eq_false {s : State} (h : Inv s) (idle : ∀ k, s.seqPhase ≠ .ser k) : s.busy = false := by
  simpa [idle] using h.busy

theorem Inv.idleOk {s : State} (h : Inv s) (idle : ∀ k, s.seqPhase ≠ .ser k) : IdleOk s :=
  { h with free := h.busy_eq_false idle, line := h.idle (h.busy_eq_false idle) }

theorem Inv.phaseOk_of_eq {s : State} (h : Inv s) {p : SeqPhase} (phase : s.seqPhase = p) (idle : ∀ k, p ≠ .ser k) :
    phaseOk s p := by
  have work := h.phase
  rwa [workPhase_of_not_ser (phase ▸ idle), phase] at work

/-- SPM's response waits only at the end of its emit stage. -/
theorem Inv.spmResp_eq_none {s : State} (h : Inv s) (phase : s.seqPhase ≠ .spmEmit s.cfg.n) : s.spmResp = none :=
  not_not.mp (mt h.resp phase)

/-- Samples wait only while the acquisition needs them. -/
theorem Inv.sampleQ_eq_nil {s : State} (h : Inv s) (phase : ∀ j, s.seqPhase = .spmAcquire j → s.cfg.l ≤ j) :
    s.sampleQ = [] := by
  by_contra waiting
  obtain ⟨j, hj, lt⟩ := h.samples waiting
  exact absurd (phase j hj) (by omega)

/-- In most phases nothing waits at SPM's ports. -/
theorem Inv.quiet {s : State} (h : Inv s) (notSer : ∀ k, s.seqPhase ≠ .ser k) (notEmit : s.seqPhase ≠ .spmEmit s.cfg.n)
    (notAcquire : ∀ j, s.seqPhase = .spmAcquire j → s.cfg.l ≤ j) : IdleOk s ∧ s.spmResp = none ∧ s.sampleQ = [] :=
  ⟨h.idleOk notSer, h.spmResp_eq_none notEmit, h.sampleQ_eq_nil notAcquire⟩

/-- The invariant from its part that no phase rule names, and the rule of the phase. -/
theorem IdleOk.inv {s : State} (h : IdleOk s) (phase : phaseOk s s.seqPhase)
    (resp : s.spmResp ≠ none → s.seqPhase = .spmEmit s.cfg.n)
    (samples : s.sampleQ ≠ [] → ∃ j, s.seqPhase = .spmAcquire j ∧ j < s.cfg.l) : Inv s :=
  { h with
    busy := by simp [h.free, phaseOk_not_ser phase]
    idle := fun _ => h.line
    phase := by rwa [workPhase_of_not_ser (phaseOk_not_ser phase)]
    ser := fun k hk => absurd hk (phaseOk_not_ser phase k)
    resp := resp
    samples := samples }

/-- The same with nothing waiting at SPM's ports. -/
theorem IdleOk.inv_of_quiet {s : State} (h : IdleOk s) (phase : phaseOk s s.seqPhase) (resp : s.spmResp = none)
    (samples : s.sampleQ = []) : Inv s :=
  h.inv phase (absurd resp) (absurd samples)

/-! ### Reset (R51) -/

theorem idleOk_resetWith {cfg : Config} (level : Bool) (h : cfg.conforming = true) : IdleOk (State.resetWith cfg level) := by
  have bounds := conforming_bounds h
  have modes : 0 < cfg.numModes := by omega
  exact {
    conforming := h
    mode := modes
    curMode := modes
    specOk := rfl
    free := rfl
    line := rfl
    shape := by constructor <;> simp [State.resetWith]
    clean := fun _ => rfl }

theorem inv_resetWith {cfg : Config} (level : Bool) (h : cfg.conforming = true) : Inv (State.resetWith cfg level) :=
  (idleOk_resetWith level h).inv_of_quiet rfl rfl rfl

/-- Settles O58: nothing runs after reset, so the invariant is `IdleOk` and the boundary's rule. -/
theorem invAtReset : Obligations.InvAtReset :=
  ⟨fun _ level h => inv_resetWith level h, inv_resetWith true (by decide)⟩

/-! ### The events that SEQ does not step (R63) -/

/-- The invariant reads no flip-flop, no worker's message, no log of a port and no script, and of MODE only its bound. -/
theorem Inv.of_unread {s t : State} (h : Inv s) (mode : t.mode.toNat < s.cfg.numModes)
    (frame : t = { s with
      mode := t.mode, btnSync := t.btnSync, btnPrev := t.btnPrev, workerQ := t.workerQ, respLog := t.respLog
      startLog := t.startLog, script := t.script }) : Inv t := by
  rw [frame]
  exact { h with mode := mode, shape := { h.shape with }, ser := fun k hk => { h.ser k hk with } }

theorem Inv.withScript {s : State} (h : Inv s) (es : List Event) : Inv { s with script := es } :=
  h.of_unread h.mode rfl

theorem Inv.nextMode_lt {s : State} (h : Inv s) : (nextMode s).toNat < s.cfg.numModes := by
  have bounds := conforming_bounds h.conforming
  rw [nextMode_toNat h.conforming]
  exact Nat.mod_lt _ (by omega)

/-- ARB keeps the invariant: a falling edge leaves MODE below NUM_MODES (R183, R35). -/
theorem Inv.arb {s : State} (h : Inv s) (level : Bool) :
    Inv (if s.btnSync = true ∧ level = false then { samplePin level s with mode := nextMode s } else samplePin level s) := by
  split
  · exact h.of_unread h.nextMode_lt rfl
  · exact h.of_unread h.mode rfl

/-- A sample joins the queue only while the acquisition needs it (R147). -/
theorem Inv.deliverSample {s : State} (h : Inv s) (v : Q15) : Inv (deliverSample v s) := by
  unfold Machine.deliverSample
  split
  · rename_i j phase
    split
    · rename_i lt
      exact { h with shape := { h.shape with }, ser := fun k hk => { h.ser k hk with }, samples := fun _ => ⟨j, phase, lt⟩ }
    · exact h
  · exact h

/-- The reset input keeps the record of refusals, which is empty in the spec's own model (log entry 15). -/
theorem Inv.resetInput {s : State} (h : Inv s) (level : Bool) : Inv (resetInput level s) := by
  have reset := idleOk_resetWith level h.conforming
  exact IdleOk.inv_of_quiet { reset with shape := { reset.shape with }, clean := h.clean } rfl rfl rfl

/-! ### Boundaries and quantum ends (R187 to R192) -/

/-- SEQ ends a quantum from any phase in which nothing waits at SPM's ports (R192). -/
theorem IdleOk.inv_quantumEnd {s : State} (h : IdleOk s) (resp : s.spmResp = none) (samples : s.sampleQ = []) :
    Inv (quantumEnd s) :=
  IdleOk.inv_of_quiet { h with shape := { h.shape with } } rfl resp samples

section Boundary

variable {s : State} (h : Inv s) (phase : s.seqPhase = .boundary)
include h phase

/-- A boundary latches a mode in range and leaves nothing waiting (R187, R35). -/
theorem Inv.latchMode_quiet : IdleOk (latchMode s) ∧ s.spmResp = none ∧ s.sampleQ = [] := by
  obtain ⟨idle, quiet⟩ := h.quiet (by simp [phase]) (by simp [phase]) (by simp [phase])
  exact ⟨{ idle with curMode := h.mode, shape := { idle.shape with } }, quiet⟩

theorem Inv.startExternal : Inv (startExternal s.mode (latchMode s)) := by
  obtain ⟨idle, resp, samples⟩ := h.latchMode_quiet phase
  exact IdleOk.inv_of_quiet { idle with shape := { idle.shape with } } rfl resp samples

theorem Inv.startPass (ok : s.specOk = true) :
    Inv { latchMode s with grant := .spm, seqPhase := .spmAcquire 0 } := by
  obtain ⟨idle, resp, samples⟩ := h.latchMode_quiet phase
  exact IdleOk.inv_of_quiet { idle with shape := { idle.shape with } } ⟨rfl, ok, Nat.zero_le _, rfl⟩ resp samples

theorem Inv.skipPass : Inv (quantumEnd (latchMode s)) := by
  obtain ⟨idle, resp, samples⟩ := h.latchMode_quiet phase
  exact idle.inv_quantumEnd resp samples

end Boundary

/-! ### The spectral stages (R145 to R162) -/

/-- Every spectral phase runs with `SPEC_OK = 1` (R141). -/
theorem Inv.specOk_eq_true {s : State} (h : Inv s) (notBoundary : s.seqPhase ≠ .boundary) (notExt : s.seqPhase ≠ .extRun)
    (notSer : ∀ k, s.seqPhase ≠ .ser k) : s.specOk = true := by
  have work := h.phaseOk_of_eq rfl notSer
  revert work
  cases hp : s.seqPhase with
  | boundary => exact absurd hp notBoundary
  | extRun => exact absurd hp notExt
  | ser k => exact absurd hp (notSer k)
  | _ => exact fun ⟨_, on, _⟩ => on

theorem window_length_of_spectralOk {c : Config} (h : c.spectralOk = true) : c.window.length = c.l := by
  simp only [Config.spectralOk, Bool.and_eq_true, beq_iff_eq] at h
  tauto

theorem windowStage_length {c : Config} {sb : List Q15} (h : c.spectralOk = true) (len : sb.length = c.l) :
    (windowStage c sb).length = c.l := by
  simp [windowStage, len, window_length_of_spectralOk h]

theorem reStage_length (c : Config) (xw : List Q15) : (reStage c xw).length = c.l / 2 + 1 := by simp [reStage]

theorem imStage_length (c : Config) (xw : List Q15) : (imStage c xw).length = c.l / 2 + 1 := by simp [imStage]

theorem magStage_length {n : Nat} {re im : List U64} (hre : re.length = n) (him : im.length = n) :
    (magStage re im).length = n := by
  simp [magStage, hre, him]

theorem bandStage_length (c : Config) (mag : List U64) : (bandStage c mag).length = c.n := by simp [bandStage]

theorem normStage_length {n : Nat} (c : Config) {band : List U64} (h : band.length = n) : (normStage c band).length = n := by
  simp [normStage, h]

/-- An array a stage has written, of the length it must have, is written whole (R48). -/
theorem written_of_length {α : Type} {n : Nat} {ys : List α} (h : ys.length = n) : written n (ys.map some) = true :=
  h ▸ written_map_some ys

section Stages

variable {s : State} (h : Inv s)
include h

/-- A sample taken extends the written part of SB, and the last one leaves no sample waiting (R145, R147). -/
theorem Inv.takeSample {j : Nat} {v : Q15} {rest : List Q15} (phase : s.seqPhase = .spmAcquire j) (lt : j < s.cfg.l) :
    Inv { s with
      sb := s.sb.set j (some v), sampleQ := if j + 1 < s.cfg.l then rest else [], seqPhase := .spmAcquire (j + 1) } := by
  obtain ⟨grant, ok, -, sb⟩ := h.phaseOk_of_eq phase nofun
  have idle := h.idleOk (by simp [phase])
  have len : (s.sb.set j (some v)).length = s.cfg.l := by simpa using h.shape.sb
  refine IdleOk.inv { idle with shape := { idle.shape with sb := len } }
    ⟨grant, ok, lt, written_set_succ v sb (by simpa [h.shape.sb] using lt)⟩
    (absurd (h.spmResp_eq_none (by simp [phase]))) fun waiting => ⟨j + 1, rfl, ?_⟩
  by_contra past
  exact waiting (if_neg past)

theorem Inv.acquired {j : Nat} (phase : s.seqPhase = .spmAcquire j) (past : s.cfg.l ≤ j) :
    Inv { s with seqPhase := .spmWindow } := by
  obtain ⟨grant, ok, le, sb⟩ := h.phaseOk_of_eq phase nofun
  obtain rfl : j = s.cfg.l := by omega
  obtain ⟨idle, resp, samples⟩ := h.quiet (by simp [phase]) (by simp [phase]) (by simp [phase])
  exact IdleOk.inv_of_quiet { idle with shape := { idle.shape with } } ⟨grant, ok, sb⟩ resp samples

theorem Inv.window {sb : List Q15} (phase : s.seqPhase = .spmWindow) (ok : s.cfg.spectralOk = true)
    (read : readElems s.cfg.l s.sb = some sb) :
    Inv { s with xw := (windowStage s.cfg sb).map some, seqPhase := .spmDft } := by
  obtain ⟨grant, on, -⟩ := h.phaseOk_of_eq phase nofun
  obtain ⟨idle, resp, samples⟩ := h.quiet (by simp [phase]) (by simp [phase]) (by simp [phase])
  have len := windowStage_length ok (readElems_length read)
  exact IdleOk.inv_of_quiet { idle with shape := { idle.shape with xw := by simpa using len } }
    ⟨grant, on, written_of_length len⟩ resp samples

theorem Inv.dft (xw : List Q15) (phase : s.seqPhase = .spmDft) :
    Inv { s with re := (reStage s.cfg xw).map some, im := (imStage s.cfg xw).map some, seqPhase := .spmMag } := by
  obtain ⟨grant, on, -⟩ := h.phaseOk_of_eq phase nofun
  obtain ⟨idle, resp, samples⟩ := h.quiet (by simp [phase]) (by simp [phase]) (by simp [phase])
  have lenRe := reStage_length s.cfg xw
  have lenIm := imStage_length s.cfg xw
  exact IdleOk.inv_of_quiet
    { idle with shape := { idle.shape with re := by simpa using lenRe, im := by simpa using lenIm } }
    ⟨grant, on, written_of_length lenRe, written_of_length lenIm⟩ resp samples

theorem Inv.magnitudes {re im : List U64} (phase : s.seqPhase = .spmMag)
    (readRe : readElems (s.cfg.l / 2 + 1) s.re = some re) (readIm : readElems (s.cfg.l / 2 + 1) s.im = some im) :
    Inv { s with mag := (magStage re im).map some, seqPhase := .spmReduce } := by
  obtain ⟨grant, on, -⟩ := h.phaseOk_of_eq phase nofun
  obtain ⟨idle, resp, samples⟩ := h.quiet (by simp [phase]) (by simp [phase]) (by simp [phase])
  have len := magStage_length (readElems_length readRe) (readElems_length readIm)
  exact IdleOk.inv_of_quiet { idle with shape := { idle.shape with mag := by simpa using len } }
    ⟨grant, on, written_of_length len⟩ resp samples

theorem Inv.reduce (mag : List U64) (phase : s.seqPhase = .spmReduce) :
    Inv { s with band := (bandStage s.cfg mag).map some, seqPhase := .spmNorm } := by
  obtain ⟨grant, on, -⟩ := h.phaseOk_of_eq phase nofun
  obtain ⟨idle, resp, samples⟩ := h.quiet (by simp [phase]) (by simp [phase]) (by simp [phase])
  have len := bandStage_length s.cfg mag
  exact IdleOk.inv_of_quiet { idle with shape := { idle.shape with band := by simpa using len } }
    ⟨grant, on, written_of_length len⟩ resp samples

theorem Inv.normalise {band : List U64} (phase : s.seqPhase = .spmNorm) (read : readElems s.cfg.n s.band = some band) :
    Inv { s with inten := (normStage s.cfg band).map some, seqPhase := .spmEmit 0 } := by
  obtain ⟨grant, on, -⟩ := h.phaseOk_of_eq phase nofun
  obtain ⟨idle, resp, samples⟩ := h.quiet (by simp [phase]) (by simp [phase]) (by simp [phase])
  have len := normStage_length s.cfg (readElems_length read)
  exact IdleOk.inv_of_quiet { idle with shape := { idle.shape with inten := by simpa using len } }
    ⟨grant, on, Nat.zero_le _, written_of_length len⟩ resp samples

end Stages

/-! ### The emit stage and the commands (R100 to R103, R166) -/

theorem IdleOk.writeCell {s : State} (h : IdleOk s) (idx : U32) (c : Color) : IdleOk (writeCell s idx c) := by
  unfold Machine.writeCell
  split
  · exact { h with shape := { h.shape with frame := by simpa using h.shape.frame } }
  · exact h

theorem IdleOk.blackFrame {s : State} (h : IdleOk s) : IdleOk (blackFrame s) :=
  { h with shape := { h.shape with frame := by simp } }

/-- A frame is whole, so it joins LINK_LOG with its length (R116, R121). -/
theorem ShapeOk.log_append {s : State} (h : ShapeOk s) :
    ∀ f ∈ s.linkLog ++ [frameBits s.cfg.wireOrder s.frame], f.length = 24 * s.cfg.n := by
  intro f hf
  rcases List.mem_append.mp hf with old | new
  · exact h.log f old
  · rw [List.mem_singleton.mp new, frameBits_length, h.frame]

theorem IdleOk.frameSent {s : State} (h : IdleOk s) : IdleOk (frameSent s) :=
  { h with free := rfl, line := rfl, shape := { h.shape with log := h.shape.log_append } }

/-- At the timing level a frame begins with its first bit, from the phases that send one (R102, R119). -/
theorem IdleOk.startFrame {s : State} (h : IdleOk s) (timing : s.cfg.level = .timing)
    (phase : s.seqPhase = .extRun ∨ s.seqPhase = .spmEmit s.cfg.n) (work : phaseOk s s.seqPhase) (resp : s.spmResp = none)
    (samples : s.sampleQ = []) : Inv (startFrame s) := by
  have bounds := conforming_bounds h.conforming
  have len : (frameBits s.cfg.wireOrder s.frame).length = 24 * s.cfg.n := by rw [frameBits_length, h.shape.frame]
  have ser : SerOk (Machine.startFrame s) 0 :=
    { timing := timing
      pos := rfl
      bits := rfl
      ret := phase
      inBit := fun _ => by simp only [startFrame_serPos, startFrame_serBits]; omega
      inGap := nofun
      line := by simp
      count := fun v _ => ⟨fun _ => by simpa [serElapsed] using highTime_pos h.conforming v, nofun⟩
      gapCount := nofun }
  exact { h with
    busy := by simp
    idle := nofun
    shape := { h.shape with }
    phase := phaseOk_of_unread (s := s) rfl work
    ser := fun k hk => by cases hk; exact ser
    resp := absurd resp
    samples := absurd samples }

section Emit

variable {s : State} (h : Inv s) {b : Nat} (phase : s.seqPhase = .spmEmit b)
include h phase

/-- SPM writes a cell, takes the response and goes on (R166). -/
theorem Inv.emitCell (v : Color) (lt : b < s.cfg.n) :
    Inv { respond ackWord (writeCell s (BitVec.ofNat 32 b) v) with spmResp := none, seqPhase := .spmEmit (b + 1) } := by
  obtain ⟨grant, on, -, inten⟩ := h.phaseOk_of_eq phase nofun
  have cell := (h.idleOk (by simp [phase])).writeCell (BitVec.ofNat 32 b) v
  exact IdleOk.inv_of_quiet { cell with shape := { cell.shape with } }
    (by simpa [phaseOk, grant, on, inten] using lt) rfl (by simpa using h.sampleQ_eq_nil (by simp [phase]))

/-- SPM sends its frame (R166): at the operation level its response waits, at the timing level the serializer starts. -/
theorem Inv.emitFrame {t : State} (past : s.cfg.n ≤ b) (resp : s.spmResp = none) (send : sendFrame s = .next t) : Inv t := by
  obtain ⟨-, -, le, -⟩ := h.phaseOk_of_eq phase nofun
  obtain rfl : b = s.cfg.n := by omega
  have work := h.phaseOk_of_eq rfl (by simp [phase])
  have idle := h.idleOk (by simp [phase])
  have samples := h.sampleQ_eq_nil (by simp [phase])
  rcases sendFrame_cases s with ⟨-, e⟩ | ⟨timing, e⟩ <;> rw [e] at send <;> cases send
  · exact idle.frameSent.inv (phaseOk_of_unread rfl work) (fun _ => phase) (absurd samples)
  · exact idle.startFrame timing (.inr phase) work resp samples

theorem Inv.emitDone : Inv (emitDone s) := by
  have idle := h.idleOk (by simp [phase])
  exact IdleOk.inv_of_quiet { idle with shape := { idle.shape with } } rfl rfl (h.sampleQ_eq_nil (by simp [phase]))

end Emit

/-! ### A worker's command (R100, R190, R191) -/

/-- A cell written between frames keeps the invariant (R101). -/
theorem Inv.writeCell {s : State} (h : Inv s) (notSer : ∀ k, s.seqPhase ≠ .ser k) (idx : U32) (c : Color) :
    Inv (writeCell s idx c) :=
  ((h.idleOk notSer).writeCell idx c).inv
    (phaseOk_of_unread (by unfold Machine.writeCell; split <;> rfl) (by simpa using h.phaseOk_of_eq rfl notSer))
    (by simpa using h.resp) (by simpa using h.samples)

/-- The Frame blacked between frames keeps the invariant (R103). -/
theorem Inv.blackFrame {s : State} (h : Inv s) (notSer : ∀ k, s.seqPhase ≠ .ser k) : Inv (blackFrame s) :=
  (h.idleOk notSer).blackFrame.inv (phaseOk_of_unread rfl (h.phaseOk_of_eq rfl notSer))
    (by simpa using h.resp) (by simpa using h.samples)

section Command

variable {s : State} (h : Inv s) (phase : s.seqPhase = .extRun)
include h phase

theorem Inv.grant_of_extRun : s.grant = .ext s.curMode := h.phaseOk_of_eq phase nofun

/-- An answer to a worker leaves SPM's port alone (R87). -/
theorem Inv.respond (w : U64) : Inv (respond w s) :=
  h.of_unread h.mode (by simp [Machine.respond, h.grant_of_extRun phase])

/-- A worker's frame, sent whole or started (R102). -/
theorem Inv.sendFrame {t : State} (send : (s.cfg.level = .operation ∧ t = frameSent s) ∨
    (s.cfg.level = .timing ∧ t = Machine.startFrame s)) : Inv t := by
  have work := h.phaseOk_of_eq rfl (by simp [phase])
  obtain ⟨idle, resp, samples⟩ := h.quiet (by simp [phase]) (by simp [phase]) (by simp [phase])
  rcases send with ⟨-, rfl⟩ | ⟨timing, rfl⟩
  · exact idle.frameSent.inv_of_quiet (phaseOk_of_unread rfl work) (by simp [frameSent, h.grant_of_extRun phase, resp]) samples
  · exact idle.startFrame timing (.inl phase) work resp samples

theorem Inv.command {w : U64} {t : State} (run : exec (decodeCmd w) s = .next t) : Inv t := by
  have notSer : ∀ k, s.seqPhase ≠ .ser k := by simp [phase]
  obtain ⟨u, hu, cases⟩ := exec_decodeCmd_cases w s
  cases hu.symm.trans run
  rcases cases with ⟨-, idx, c, rfl⟩ | ⟨x, rfl⟩ | ⟨s0, rfl | ⟨-, rfl⟩, send⟩
  · exact (h.writeCell notSer idx c).respond (by simpa using phase) ackWord
  · exact h.respond phase x
  · exact h.sendFrame phase send
  · exact (h.blackFrame notSer).sendFrame phase (by simpa using send)

end Command

/-- A word taken is recorded only where the model's check lets a refused word run (R210, log entry 4). -/
theorem Inv.noteRefusal {s : State} (h : Inv s) {w : U64}
    (accepted : s.cfg.check = .hardware ∨ (decodeCmd w).refusedByModel = false) : Inv (noteRefusal w s) := by
  refine { h with shape := { h.shape with }, ser := fun k hk => { h.ser k hk with }, clean := fun refuse => ?_ }
  have kept : (decodeCmd w).refusedByModel = false := accepted.resolve_left fun e => nomatch e.symm.trans refuse
  simpa [State.clean, kept] using h.clean refuse

/-! ### The serializer (R115 to R121) -/

section Serializer

variable {s : State} (h : Inv s) {k : Nat} (phase : s.seqPhase = .ser k)
include h phase

/-- A frame in flight returns to the phase its registers name. -/
theorem Inv.phaseOk_serRet : phaseOk s s.serRet := by
  have work := h.phase
  rwa [workPhase, phase] at work

/-- A cycle inside a frame keeps the invariant when it keeps the serializer's registers right. -/
theorem Inv.of_serOk {t : State}
    (frame : t = { s with
      serCnt := t.serCnt, serWraps := t.serWraps, serSub := t.serSub, linkOut := t.linkOut, serPos := t.serPos
      seqPhase := t.seqPhase })
    (inFlight : t.seqPhase = .ser t.serPos) (ser : SerOk t t.serPos) : Inv t := by
  have busy : s.busy = true := h.busy.mpr ⟨k, phase⟩
  have work : phaseOk t (workPhase t) := by
    rw [workPhase, inFlight, frame]
    exact phaseOk_of_unread (s := s) rfl (h.phaseOk_serRet phase)
  rw [frame] at work inFlight ser ⊢
  exact { h with
    busy := ⟨fun _ => ⟨_, inFlight⟩, fun _ => busy⟩
    idle := fun free => absurd (busy.symm.trans free) nofun
    shape := { h.shape with }
    phase := work
    ser := fun j hj => by cases inFlight.symm.trans hj; exact ser
    resp := absurd (h.spmResp_eq_none (by simp [phase]))
    samples := absurd (h.sampleQ_eq_nil (by simp [phase])) }

/-- The phase names the bit being sent (R40). -/
theorem Inv.phase_eq : s.seqPhase = .ser s.serPos := (h.ser k phase).pos ▸ phase

/-- A cycle inside a part of the frame counts (R119, R120). -/
theorem Inv.serTick (count : ∀ v, s.serBits[s.serPos]? = some v →
      (s.serSub = .high → serElapsed s + 1 < highTime s.cfg v) ∧ (s.serSub = .low → serElapsed s + 1 < lowTime s.cfg v))
    (gap : s.serSub = .gap → serElapsed s + 1 < s.cfg.tReset) : Inv (serTick s) := by
  have inFlight := h.phase_eq phase
  have ser := h.ser _ inFlight
  exact h.of_serOk phase rfl inFlight
    { ser with
      count := by simpa using count
      gapCount := by simpa using gap }

/-- After the HIGH part of a bit its LOW part begins (R119). -/
theorem Inv.highCycle {v : Bool} (sub : s.serSub = .high) (bit : s.serBits[s.serPos]? = some v) : Inv (highCycle v s) := by
  have inFlight := h.phase_eq phase
  have ser := h.ser _ inFlight
  unfold Machine.highCycle
  split
  · rename_i more
    exact h.serTick phase (by simp [sub, bit, more]) (by simp [sub])
  · exact h.of_serOk phase rfl inFlight
      { ser with
        inBit := fun _ => ser.inBit (by simp [sub])
        inGap := nofun
        line := by simp
        count := fun w _ => ⟨nofun, fun _ => by simpa [serElapsed] using lowTime_pos h.conforming w⟩
        gapCount := nofun }

/-- After the LOW part of a bit the next bit begins, or after the last one the latch gap (R115, R120). -/
theorem Inv.lowCycle {v : Bool} (sub : s.serSub = .low) (bit : s.serBits[s.serPos]? = some v) : Inv (lowCycle v s) := by
  have inFlight := h.phase_eq phase
  have ser := h.ser _ inFlight
  have bounds := conforming_bounds h.conforming
  have treset : 0 < s.cfg.tReset := by omega
  have lt := ser.inBit (by simp [sub])
  unfold Machine.lowCycle
  split
  · rename_i more
    exact h.serTick phase (by simp [sub, bit, more]) (by simp [sub])
  split
  · rename_i next
    exact h.of_serOk phase rfl rfl
      { ser with
        pos := rfl
        inBit := fun _ => next
        inGap := nofun
        line := by simp
        count := fun w _ => ⟨fun _ => by simpa [serElapsed] using highTime_pos h.conforming w, nofun⟩
        gapCount := nofun }
  · rename_i last
    exact h.of_serOk phase rfl rfl
      { ser with
        pos := rfl
        inBit := fun e => absurd rfl e
        inGap := fun _ => by simp only [startGap]; omega
        line := by simp [startGap]
        count := fun w _ => ⟨nofun, nofun⟩
        gapCount := fun _ => by rw [serElapsed_zero rfl rfl]; exact treset }

/-- The frame completes (R121): it joins LINK_LOG whole, and SEQ is back in the phase that sent it. -/
theorem Inv.completeFrame (sub : s.serSub = .gap) : Inv (completeFrame s) := by
  have ser := h.ser k phase
  have work := h.phaseOk_serRet phase
  have line : s.linkOut = false := by simpa [sub] using ser.line
  have log := h.shape.log_append
  rw [← ser.bits] at log
  refine IdleOk.inv { h with free := rfl, line := line, shape := { h.shape with log := log } }
    (phaseOk_of_unread rfl work) (fun waiting => ?_) (absurd (h.sampleQ_eq_nil (by simp [phase])))
  refine ser.ret.resolve_left fun ext => waiting ?_
  rw [ext] at work
  have grant : s.grant = .ext s.curMode := work
  simpa [Machine.completeFrame, grant] using h.spmResp_eq_none (by simp [phase])

end Serializer

/-! ### Every step (R63) -/

/-- Each move of SEQ keeps the invariant. -/
theorem SeqMove.keeps_inv {s t : State} (move : SeqMove s t) (h : Inv s) : Inv t := by
  cases move with
  | wait => exact h
  | external phase => exact h.startExternal phase
  | pass phase _ ok => exact h.startPass phase ok
  | skip phase => exact h.skipPass phase
  | take _ _ _ phase lt => exact h.takeSample phase lt
  | acquired _ phase past => exact h.acquired phase past
  | gated off notBoundary notExt notSer => exact nomatch off.symm.trans (h.specOk_eq_true notBoundary notExt notSer)
  | window _ phase ok read => exact h.window phase ok read
  | dft xw phase => exact h.dft xw phase
  | mag _ _ phase _ readRe readIm => exact h.magnitudes phase readRe readIm
  | reduce mag phase => exact h.reduce mag phase
  | norm _ phase _ read => exact h.normalise phase read
  | emit _ _ phase lt => exact h.emitCell phase _ lt
  | flush _ _ phase past _ _ resp send => exact h.emitFrame phase past resp send
  | passEnd _ phase => exact h.emitDone phase
  | command _ _ q _ phase _ _ _ accepted run =>
    exact ((h.of_unread (t := { s with workerQ := q }) h.mode rfl).noteRefusal accepted).command phase run
  | done _ q phase =>
    obtain ⟨idle, resp, samples⟩ := h.quiet (by simp [phase]) (by simp [phase]) (by simp [phase])
    exact IdleOk.inv_quantumEnd { idle with shape := { idle.shape with } } resp samples
  | high _ _ phase sub bit => exact h.highCycle phase sub bit
  | low _ _ phase sub bit => exact h.lowCycle phase sub bit
  | gap _ phase sub more => exact h.serTick phase (by simp [sub]) fun _ => more
  | complete _ phase sub => exact h.completeFrame phase sub
  | sent k phase sub bit =>
    have lt := (h.ser k phase).inBit sub
    exact absurd (List.getElem?_eq_none_iff.mp bit) (by omega)

/-- Settles O59, by the kind of the step: SEQ's move, ARB's sample, or an event at a port. -/
theorem stepKeepsInv : Obligations.StepKeepsInv := by
  intro s t h run
  rcases step_cases run with ⟨s', turn, move⟩ | ⟨level, rest, -, rfl⟩ | ⟨v, rest, -, rfl⟩ | ⟨m, msg, rest, -, rfl⟩ |
    ⟨level, rest, -, rfl⟩
  · rw [seqTurn_eq turn] at move
    exact (seqStep_move move).keeps_inv (h.withScript _)
  · exact (h.withScript rest).arb level
  · exact (h.withScript rest).deliverSample v
  · exact h.of_unread h.mode rfl
  · exact (h.withScript rest).resetInput level

end Sys2Proof.Machine
end

section
/-! PROOFS. From a state that meets the invariant a step goes on, but for a word the spec's own model refuses (60_exceptions.md R210,
R213, R217): no fault and no ConfigRefused is reachable (10_state.md R35, R48). -/

namespace Sys2Proof.Machine

/-- A step that is not SEQ's goes on. -/
theorem step_next_or_seqTurn {s : State} (h : s.cfg.conforming = true) :
    (∃ t, step s = .next t) ∨ ∃ s', seqTurn s = some s' ∧ step s = seqStep s' := by
  rw [step_of_conforming h]
  cases turn : seqTurn s with
  | some s' => exact .inr ⟨s', rfl, nextEvent_of_seqTurn turn⟩
  | none =>
    unfold seqTurn at turn
    unfold nextEvent
    split at turn
    · cases turn
    · cases turn
    · exact .inl ⟨_, by simp only [*]; exact arbStep_eq _ _⟩
    · exact .inl ⟨_, by simp only [*]; rfl⟩
    · exact .inl ⟨_, by simp only [*]; rfl⟩
    · exact .inl ⟨_, by simp only [*]; rfl⟩

/-- Acquire takes a sample, waits for it, or is complete (R145, R146). -/
theorem acquireStep_next (j : Nat) (s : State) : ∃ t, acquireStep j s = .next t := by
  unfold acquireStep
  split
  · split <;> exact ⟨_, rfl⟩
  · exact ⟨_, rfl⟩

/-- UPDATE's body answers a next state at both levels (R102). -/
theorem sendFrame_next (s : State) : ∃ t, sendFrame s = .next t := by
  rcases sendFrame_cases s with ⟨-, e⟩ | ⟨-, e⟩ <;> exact ⟨_, e⟩

/-- Emit goes on once the intensities are written (R166, R48). -/
theorem emitStep_next (b : Nat) {s : State} (inten : written s.cfg.n s.inten = true) : ∃ t, emitStep b s = .next t := by
  unfold emitStep
  split
  · split
    · rename_i lt
      obtain ⟨v, hv⟩ := written_getElem inten lt
      exact ⟨_, by rw [withElem_of_get hv, takeCommand_setcolorWord]; rfl⟩
    · split
      · rw [takeCommand_updateWord]
        exact sendFrame_next s
      · exact ⟨_, rfl⟩
  · exact ⟨_, rfl⟩

/-- A word taken answers a next state unless the spec's own model refuses it (R210). -/
theorem takeCommand_next_or_refused (w : U64) (s : State) : (∃ t, takeCommand w s = .next t) ∨
    (s.cfg.check = .refuse ∧ (decodeCmd w).refusedByModel = true ∧ takeCommand w s = .refused (.refusedCommand w)) := by
  rcases takeCommand_cases w s with refused | ⟨-, e⟩
  · exact .inr refused
  · obtain ⟨t, ht, -⟩ := exec_decodeCmd_cases w (noteRefusal w s)
    exact .inl ⟨t, e.trans ht⟩

/-- SEQ's step from a state of EXT_RUN, whoever holds the grant: it stops only at a word the spec's own model refuses. -/
theorem extRunStep_next_or_refused (s : State) : (∃ t, extRunStep s = .next t) ∨
    (s.cfg.check = .refuse ∧ ∃ m w q, s.grant = .ext m ∧ takeMessage m s.workerQ = some (.cmd w, q) ∧
      (decodeCmd w).refusedByModel = true ∧ extRunStep s = .refused (.refusedCommand w)) := by
  unfold extRunStep
  split
  · rename_i m grant
    unfold extRunWith
    split
    · split
      · exact .inl ⟨_, rfl⟩
      · rename_i w q msg
        rcases takeCommand_next_or_refused w { s with workerQ := q } with next | ⟨check, refused, e⟩
        · exact .inl next
        · exact .inr ⟨check, m, w, q, grant, msg, refused, e⟩
      · exact .inl ⟨_, rfl⟩
    · exact .inl ⟨_, rfl⟩
  · exact .inl ⟨_, rfl⟩
  · exact .inl ⟨_, rfl⟩

/-- SEQ goes on from every phase the invariant allows but EXT_RUN: a mode in range is dispatched, and each stage reads what the stage
before it has written (R35, R48). -/
theorem Inv.seqStep_next {s : State} (h : Inv s) (notExt : s.seqPhase ≠ .extRun) : ∃ t, seqStep s = .next t := by
  have spectral : s.specOk = true → s.cfg.spectralOk = true := fun on => h.specOk.symm.trans on
  cases phase : s.seqPhase with
  | boundary =>
    rw [seqStep_of_boundary phase]
    rcases boundaryStep_cases s with ⟨past, -⟩ | ⟨-, -, e⟩ | ⟨-, -, -, e⟩ | ⟨-, -, -, e⟩
    · exact absurd h.mode (by omega)
    all_goals exact ⟨_, e⟩
  | spmAcquire j =>
    obtain ⟨-, on, -⟩ := h.phaseOk_of_eq phase nofun
    rw [seqStep_of_acquire phase on (spectral on)]
    exact acquireStep_next j s
  | spmWindow =>
    obtain ⟨-, on, sb⟩ := h.phaseOk_of_eq phase nofun
    obtain ⟨ys, read⟩ := written_iff.mp sb
    exact ⟨_, seqStep_of_window phase on (spectral on) read⟩
  | spmDft =>
    obtain ⟨-, on, xw⟩ := h.phaseOk_of_eq phase nofun
    obtain ⟨ys, read⟩ := written_iff.mp xw
    exact ⟨_, seqStep_of_dft phase on (spectral on) read⟩
  | spmMag =>
    obtain ⟨-, on, re, im⟩ := h.phaseOk_of_eq phase nofun
    obtain ⟨xs, readRe⟩ := written_iff.mp re
    obtain ⟨ys, readIm⟩ := written_iff.mp im
    exact ⟨_, seqStep_of_mag phase on (spectral on) readRe readIm⟩
  | spmReduce =>
    obtain ⟨-, on, mag⟩ := h.phaseOk_of_eq phase nofun
    obtain ⟨ys, read⟩ := written_iff.mp mag
    exact ⟨_, seqStep_of_reduce phase on (spectral on) read⟩
  | spmNorm =>
    obtain ⟨-, on, band⟩ := h.phaseOk_of_eq phase nofun
    obtain ⟨ys, read⟩ := written_iff.mp band
    exact ⟨_, seqStep_of_norm phase on (spectral on) read⟩
  | spmEmit b =>
    obtain ⟨-, on, -, inten⟩ := h.phaseOk_of_eq phase nofun
    rw [seqStep_of_emit phase on (spectral on)]
    exact emitStep_next b inten
  | extRun => exact absurd phase notExt
  | ser k => exact ⟨_, seqStep_of_ser phase⟩

/-- Settles O60: an event at a port always goes on, and so does SEQ, in EXT_RUN up to a word the spec's own model refuses. -/
theorem invStopsOnlyOnRefusedCommand : Obligations.InvStopsOnlyOnRefusedCommand := by
  intro s h
  rcases step_next_or_seqTurn h.conforming with next | ⟨s', turn, e⟩
  · exact .inl next
  have isTurn : (seqTurn s).isSome = true := by rw [turn]; rfl
  rw [e, seqTurn_eq turn]
  by_cases phase : s.seqPhase = .extRun
  · rw [seqStep_of_extRun (s := { s with script := s'.script }) phase]
    exact (extRunStep_next_or_refused _).imp_right fun ⟨check, stop⟩ => ⟨check, isTurn, phase, stop⟩
  · exact .inl ((h.withScript _).seqStep_next phase)

end Sys2Proof.Machine
end

section
/-! PROOFS. Who writes the block's registers: the Frame is written by commands and reset alone (10_state.md R31), MODE and the
button's flip-flops by ARB and reset alone (R33, R52), and reset gives every register the value of R51. -/

namespace Sys2Proof.Machine

/-- Settles O54, register by register; no element of an array is written. -/
theorem resetValues : Obligations.ResetValues := by
  intro cfg level
  refine ⟨_, rfl, rfl, rfl, rfl, rfl, rfl, rfl, rfl, rfl, rfl, rfl, rfl, rfl, rfl, rfl, rfl, rfl, ?_, ?_, ?_⟩ <;>
    simp +contextual [State.resetWith]

/-- A command changes the Frame only by SETCOLOR or CLEAR (R101, R103). -/
theorem exec_decodeCmd_keeps_frame {w : U64} {s t : State} (run : exec (decodeCmd w) s = .next t) :
    t.frame = s.frame ∨ cmdOp w = 1#8 ∨ cmdOp w = 3#8 := by
  obtain ⟨u, hu, cases⟩ := exec_decodeCmd_cases w s
  cases hu.symm.trans run
  rcases cases with ⟨op, -⟩ | ⟨x, rfl⟩ | ⟨s0, rfl | ⟨op, -⟩, send⟩
  · exact .inr (.inl op)
  · exact .inl rfl
  · rcases send with ⟨-, rfl⟩ | ⟨-, rfl⟩ <;> exact .inl rfl
  · exact .inr (.inr op)

/-- SEQ changes the Frame only by SPM's SETCOLOR or by the command it takes from a worker (R31, R196). -/
theorem SeqMove.frame_cases {s t : State} (move : SeqMove s t) : t.frame = s.frame ∨
    (∃ b, s.seqPhase = .spmEmit b ∧ b < s.cfg.n ∧ s.grant = .spm) ∨
    (∃ m w q, s.seqPhase = .extRun ∧ s.grant = .ext m ∧ takeMessage m s.workerQ = some (.cmd w, q) ∧
      (cmdOp w = 1#8 ∨ cmdOp w = 3#8)) := by
  cases move with
  | emit b _ phase lt grant => exact .inr (.inl ⟨b, phase, lt, grant⟩)
  | command m w q _ phase grant _ msg _ run =>
    exact (exec_decodeCmd_keeps_frame run).imp_right fun op => .inr ⟨m, w, q, phase, grant, msg, op⟩
  | flush _ _ _ _ _ _ _ send =>
    rcases sendFrame_cases s with ⟨-, e⟩ | ⟨-, e⟩ <;> cases e.symm.trans send <;> exact .inl rfl
  | high => unfold highCycle; split <;> exact .inl rfl
  | low =>
    unfold lowCycle
    split
    · exact .inl rfl
    · split <;> exact .inl rfl
  | _ => exact .inl rfl

/-- Settles O29, by the kind of the step: among the steps of SEQ by `SeqMove.frame_cases`, and no other event but the reset input
touches the Frame. -/
theorem frameWrittenOnlyByCommands : Obligations.FrameWrittenOnlyByCommands := by
  intro s t run changed
  rcases step_cases run with ⟨s', turn, move⟩ | ⟨level, rest, -, rfl⟩ | ⟨v, rest, -, rfl⟩ | ⟨m, msg, rest, -, rfl⟩ |
    ⟨level, rest, reset, -⟩
  · have isTurn : (seqTurn s).isSome = true := by rw [turn]; rfl
    rw [seqTurn_eq turn] at move
    rcases (seqStep_move move).frame_cases with kept | ⟨b, write⟩ | ⟨m, w, q, write⟩
    · exact absurd kept changed
    · exact .inr (.inl ⟨b, isTurn, write⟩)
    · exact .inr (.inr ⟨m, w, q, isTurn, write⟩)
  · exact absurd (by split <;> rfl) changed
  · exact absurd (by simp) changed
  · exact absurd rfl changed
  · exact .inl ⟨level, rest, reset⟩

/-- Settles O34, by the kind of the step: SEQ's moves fix all three (`SeqMove.fixed`), and ARB alone writes them. -/
theorem onlyArbWritesMode : Obligations.OnlyArbWritesMode := by
  intro s t run noReset
  rcases step_cases run with ⟨s', turn, move⟩ | ⟨level, rest, pin, rfl⟩ | ⟨v, rest, -, rfl⟩ | ⟨m, msg, rest, -, rfl⟩ |
    ⟨level, rest, reset, -⟩
  · rw [seqTurn_eq turn] at move
    obtain ⟨-, mode, sync, prev, -⟩ := (seqStep_move move).fixed
    exact ⟨fun _ => mode, fun _ => ⟨sync, prev⟩⟩
  · refine ⟨fun noEdge => ?_, fun noPin => absurd pin (noPin level rest)⟩
    have noFall : ¬(s.btnSync = true ∧ level = false) := by
      rintro ⟨high, rfl⟩
      exact nomatch high.symm.trans (noEdge rest pin)
    rw [if_neg noFall]
    rfl
  · simp
  · simp
  · exact absurd reset (noReset level rest)

end Sys2Proof.Machine
end

section
/-! PROOFS. The interleaving of 20_memory.md R63: what one event of it does, that in R210's hardware column every stream of events
is an endless run, and that MODE counts the falling edges of a stream whatever SEQ does meanwhile (43_mode_scheduler.md R195,
60_exceptions.md R229). -/

namespace Sys2Proof.Machine

/-! ### One event (R63) -/

/-- A step whose script is not at its end is its next event. -/
theorem step_of_script {s : State} {e : Event} {rest : List Event} (h : s.cfg.conforming = true)
    (script : s.script = e :: rest) : step s = eventStep e { s with script := rest } := by
  rw [step_of_conforming h, nextEvent, script]

/-- A sample that the acquisition still needs joins the queue, and nothing else changes (R146). -/
theorem deliverSample_of_acquiring {s : State} {j : Nat} (v : Q15) (phase : s.seqPhase = .spmAcquire j) (lt : j < s.cfg.l) :
    deliverSample v s = { s with sampleQ := s.sampleQ ++ [v] } := by
  simp [deliverSample, phase, lt]

/-- A sample that no acquisition needs is discarded (R147). -/
theorem deliverSample_of_not_acquiring {s : State} (v : Q15) (idle : ¬∃ j, s.seqPhase = .spmAcquire j ∧ j < s.cfg.l) :
    deliverSample v s = s := by
  unfold deliverSample
  split
  · rename_i j phase
    exact if_neg fun lt => idle ⟨j, phase, lt⟩
  · rfl

/-- Settles O10, event by event; a sample by whether an acquisition still needs it. -/
theorem stepIsNextEvent : Obligations.StepIsNextEvent := by
  refine ⟨fun s s' h turn => ?seq, fun s v rest h script => ?sample, fun s m msg rest h script => step_of_script h script,
    fun s level rest h script => step_of_script h script⟩
  case seq => exact (step_of_conforming h).trans (nextEvent_of_seqTurn turn)
  case sample =>
    refine ⟨_, step_of_script h script, ?_⟩
    by_cases acquiring : ∃ j, s.seqPhase = .spmAcquire j ∧ j < s.cfg.l
    · obtain ⟨j, phase, lt⟩ := acquiring
      rw [deliverSample_of_acquiring (s := { s with script := rest }) v phase lt]
      exact ⟨rfl, fun _ => rfl, absurd ⟨j, phase, lt⟩⟩
    · rw [deliverSample_of_not_acquiring (s := { s with script := rest }) v acquiring]
      exact ⟨rfl, fun needed => absurd needed acquiring, fun _ => rfl⟩

/-! ### Every stream of events is an endless run (R63, R210) -/

/-- In R210's hardware column no step from a state that meets the invariant stops. -/
theorem Inv.step_next_of_hardware {s : State} (h : Inv s) (hardware : s.cfg.check = .hardware) : ∃ t, step s = .next t := by
  rcases invStopsOnlyOnRefusedCommand s h with next | ⟨refuse, -⟩
  · exact next
  · exact nomatch hardware.symm.trans refuse

/-- The state a step goes on to; a step that stops leaves the state as it is. -/
def stepOrStay (s : State) : State :=
  match step s with
  | .next t => t
  | .fault _ => s
  | .refused _ => s

theorem stepOrStay_of_next {s t : State} (run : step s = .next t) : stepOrStay s = t := by
  rw [stepOrStay, run]

/-- The state after the first `n` events of the stream `e`, from `s`. -/
def stateAfter (e : Nat → Event) (s : State) : Nat → State
  | 0 => s
  | n + 1 => stepOrStay ((stateAfter e s n).withEvent (e n))

/-- The next event of a stream goes on to the next state of its run. -/
theorem step_stateAfter {e : Nat → Event} {s : State} {n : Nat} (h : Inv (stateAfter e s n))
    (hardware : (stateAfter e s n).cfg.check = .hardware) :
    step ((stateAfter e s n).withEvent (e n)) = .next (stateAfter e s (n + 1)) := by
  obtain ⟨t, run⟩ := (h.withScript [e n]).step_next_of_hardware hardware
  exact run.trans (congrArg Host.Outcome.next (stepOrStay_of_next run).symm)

/-- The run of a stream stays in the invariant and in the hardware column. -/
theorem stateAfter_inv {s : State} (e : Nat → Event) (h : Inv s) (hardware : s.cfg.check = .hardware) (n : Nat) :
    Inv (stateAfter e s n) ∧ (stateAfter e s n).cfg.check = .hardware := by
  induction n with
  | zero => exact ⟨h, hardware⟩
  | succ n ih =>
    obtain ⟨inv, column⟩ := ih
    have run := step_stateAfter inv column
    exact ⟨stepKeepsInv _ _ (inv.withScript [e n]) run, (congrArg Config.check (configurationNeverChanges _ _ run)).trans column⟩

theorem stateAfter_endless {s : State} (e : Nat → Event) (h : Inv s) (hardware : s.cfg.check = .hardware) :
    EndlessRun e (stateAfter e s) := fun n =>
  have ⟨inv, column⟩ := stateAfter_inv e h hardware n
  step_stateAfter inv column

/-! ### MODE counts the falling edges (R195, R229) -/

/-- MODE and the falling edges still to be sampled have one sum, modulo NUM_MODES, before and after every event but the reset
input: ARB moves an edge from the events to MODE, and no other event touches MODE or the flip-flop. -/
theorem step_keeps_edge_sum {s t : State} {e : Event} {rest : List Event} (script : s.script = e :: rest)
    (run : step s = .next t) (noReset : ∀ level, e ≠ .reset level) (es : List Event) :
    (t.mode.toNat + fallingEdges t.btnSync es) % s.cfg.numModes =
      (s.mode.toNat + fallingEdges s.btnSync (e :: es)) % s.cfg.numModes := by
  have conforming := conforming_of_step run
  rw [step_of_script conforming script] at run
  cases e with
  | pin level =>
    rw [eventStep, arbStep_eq] at run
    cases run
    by_cases fall : s.btnSync = true ∧ level = false
    · obtain ⟨high, rfl⟩ := fall
      rw [if_pos ⟨high, rfl⟩]
      change ((nextMode s).toNat + fallingEdges false es) % _ = _
      simp [nextMode_toNat conforming, high, fallingEdges, Nat.add_assoc]
    · have noEdge : (s.btnSync && !level) = false := by simpa using fall
      simp [fall, noEdge, fallingEdges]
  | seq =>
    obtain ⟨-, mode, sync, -⟩ := (seqStep_move run).fixed
    rw [mode, sync, fallingEdges]
  | sample v =>
    cases run
    simp [fallingEdges]
  | present m msg =>
    cases run
    simp [fallingEdges]
  | reset level => exact absurd rfl (noReset level)

/-- The first events of a stream are its first event and the first events of its tail. -/
theorem firstEvents_succ (e : Nat → Event) (n : Nat) :
    firstEvents e (n + 1) = e 0 :: firstEvents (fun k => e (k + 1)) n := by
  simp [firstEvents, List.range_succ_eq_map, Function.comp_def]

/-- R195 over an endless run, by induction on the time and for the run's tail at each step. -/
theorem endlessRun_mode {e : Nat → Event} {σ : Nat → State} (run : EndlessRun e σ) (h : Inv (σ 0))
    (noReset : ∀ n level, e n ≠ .reset level) (n : Nat) :
    (σ n).mode.toNat =
      ((σ 0).mode.toNat + fallingEdges (σ 0).btnSync (firstEvents e n)) % (σ 0).cfg.numModes := by
  induction n generalizing e σ with
  | zero => exact (Nat.mod_eq_of_lt h.mode).symm
  | succ n ih =>
    have tail := ih (e := fun k => e (k + 1)) (σ := fun k => σ (k + 1)) (fun k => run (k + 1))
      (stepKeepsInv _ _ (h.withScript [e 0]) (run 0)) fun k => noReset (k + 1)
    have sameConfig : (σ 1).cfg = (σ 0).cfg := configurationNeverChanges ((σ 0).withEvent (e 0)) _ (run 0)
    rw [firstEvents_succ]
    calc (σ (n + 1)).mode.toNat
      _ = _ := tail
      _ = ((σ 1).mode.toNat + fallingEdges (σ 1).btnSync (firstEvents (fun k => e (k + 1)) n)) % (σ 0).cfg.numModes := by
        rw [sameConfig]
      _ = _ := step_keeps_edge_sum (s := (σ 0).withEvent (e 0)) rfl (run 0) (noReset 0) _

/-- Settles O53: the run of a stream is `stateAfter`, and the count is the sum that every event keeps. -/
theorem endlessRunCountsEveryEdge : Obligations.EndlessRunCountsEveryEdge :=
  ⟨fun s e h hardware => ⟨stateAfter e s, rfl, stateAfter_endless e h hardware⟩,
    fun _ _ run h noReset => endlessRun_mode run h noReset⟩

end Sys2Proof.Machine
end

section
/-! PROOFS. Decoding and encoding are inverse (30_encoding.md R81 to R84, R88, R89), decode is total (R93), and the words of the
specification's vectors decode to their instructions. -/

namespace Sys2Proof

/-! ### A word is packed from its own fields (R81) -/

theorem packPlain_fields {w : U64} {op : Byte} (h : cmdOp w = op) : packPlain op (cmdLow56 w) = w := by
  subst h
  refine BitVec.eq_of_getLsbD_eq fun i hi => ?_
  rw [getLsbD_packPlain]
  by_cases low : i < 56
  · simp [cmdLow56, low]
  · simp [cmdOp, low, show i - 56 < 8 by omega, show 56 + (i - 56) = i by omega]

theorem packIndexed_fields {w : U64} {op : Byte} (h : cmdOp w = op) :
    packIndexed op (cmdIndex w) (cmdLow24 w) = w := by
  subst h
  refine BitVec.eq_of_getLsbD_eq fun i hi => ?_
  rw [getLsbD_packIndexed]
  by_cases low : i < 24
  · simp [cmdLow24, low]
  by_cases index : i < 56
  · simp [cmdIndex, low, index, show i - 24 < 32 by omega, show 24 + (i - 24) = i by omega]
  · simp [cmdOp, low, index, show i - 56 < 8 by omega, show 56 + (i - 56) = i by omega]

theorem rgb_fields (w : U64) : (cmdR w ++ cmdG w ++ cmdB w : BitVec 24) = cmdLow24 w := by
  refine BitVec.eq_of_getLsbD_eq fun i hi => ?_
  rw [getLsbD_rgb]
  by_cases blue : i < 8
  · simp [cmdB, cmdLow24, hi, blue]
  by_cases green : i < 16
  · simp [cmdG, cmdLow24, hi, blue, green, show i - 8 < 8 by omega, show 8 + (i - 8) = i by omega]
  · simp [cmdR, cmdLow24, hi, blue, green, show i - 16 < 8 by omega, show 16 + (i - 16) = i by omega]

/-! ### What a code decodes to -/

/-- Everything a command word can decode to, by its `OP` (R84, R85). -/
theorem decodeCmd_cases (w : U64) :
    (cmdOp w = 1#8 ∧ decodeCmd w = .setcolor (cmdIndex w) (cmdR w) (cmdG w) (cmdB w)) ∨
      (cmdOp w = 2#8 ∧ decodeCmd w = .update (cmdLow56 w)) ∨
      (cmdOp w = 3#8 ∧ decodeCmd w = .clear (cmdLow56 w)) ∨
      (cmdOp w = 4#8 ∧ decodeCmd w = .readcolor (cmdIndex w) (cmdLow24 w)) ∨
      (cmdOp w = 5#8 ∧ decodeCmd w = .readreg (cmdIndex w) (cmdLow24 w)) ∨
      (opDefined (cmdOp w) = false ∧ decodeCmd w = .reserved (cmdOp w) (cmdLow56 w)) := by
  cases defined : opDefined (cmdOp w) with
  | true => rcases (opDefined_iff _).mp defined with op | op | op | op | op <;> simp [decodeCmd, op]
  | false =>
    have reserved := decodeCmd_reserved _ (cmdLow56 w) defined
    rw [packPlain_fields rfl] at reserved
    simp [reserved]

theorem decodeDispatch_unreachable {n : Nat} {m : U32} (h : n ≤ m.toNat) :
    decodeDispatch n m = .dispatchUnreachable m := if_pos h

theorem decodeDispatch_motionTilt {n : Nat} (h : 0 < n) : decodeDispatch n 0#32 = .dispatchMotionTilt :=
  if_neg (Nat.not_le.mpr h)

theorem decodeDispatch_spectral {n : Nat} (h : 1 < n) : decodeDispatch n spectralMode = .dispatchSpectral :=
  if_neg (Nat.not_le.mpr h)

theorem decodeDispatch_telemetry {n : Nat} (h : 2 < n) : decodeDispatch n 2#32 = .dispatchTelemetry :=
  if_neg (Nat.not_le.mpr h)

theorem decodeDispatch_placeholder {n : Nat} (h : 3 < n) : decodeDispatch n 3#32 = .dispatchPlaceholder :=
  if_neg (Nat.not_le.mpr h)

theorem decodeDispatch_ext {n : Nat} {m : U32} (high : 4 ≤ m.toNat) (lt : m.toNat < n) :
    decodeDispatch n m = .dispatchExt m := by
  have named : ∀ k : U32, k.toNat < 4 → m ≠ k := by rintro k small rfl; omega
  simp [decodeDispatch, lt, named]

/-- Everything a mode can decode to, by its range (R89). -/
theorem decodeDispatch_cases (n : Nat) (m : U32) :
    (m = 0#32 ∧ 0 < n ∧ decodeDispatch n m = .dispatchMotionTilt) ∨
      (m = spectralMode ∧ 1 < n ∧ decodeDispatch n m = .dispatchSpectral) ∨
      (m = 2#32 ∧ 2 < n ∧ decodeDispatch n m = .dispatchTelemetry) ∨
      (m = 3#32 ∧ 3 < n ∧ decodeDispatch n m = .dispatchPlaceholder) ∨
      (4 ≤ m.toNat ∧ m.toNat < n ∧ decodeDispatch n m = .dispatchExt m) ∨
      (n ≤ m.toNat ∧ decodeDispatch n m = .dispatchUnreachable m) := by
  by_cases outside : n ≤ m.toNat
  · simp [outside, decodeDispatch_unreachable outside]
  have inside : m.toNat < n := by omega
  by_cases high : 4 ≤ m.toNat
  · simp [high, inside, decodeDispatch_ext high inside]
  have named : m = 0#32 ∨ m = 1#32 ∨ m = 2#32 ∨ m = 3#32 := by bv_omega
  rcases named with rfl | rfl | rfl | rfl
  · exact .inl ⟨rfl, inside, decodeDispatch_motionTilt inside⟩
  · exact .inr (.inl ⟨rfl, inside, decodeDispatch_spectral inside⟩)
  · exact .inr (.inr (.inl ⟨rfl, inside, decodeDispatch_telemetry inside⟩))
  · exact .inr (.inr (.inr (.inl ⟨rfl, inside, decodeDispatch_placeholder inside⟩)))

/-! ### The round trips -/

/-- Settles O1, by the row: a command's packed fields are read back, and an event's code selects its row. -/
theorem decodeOfEncode : Obligations.DecodeOfEncode := by
  intro n i ok
  cases i with
  | setcolor idx r g b => exact congrArg Except.ok (decodeCmd_setcolor idx r g b)
  | update sbz => exact congrArg Except.ok (decodeCmd_update sbz)
  | clear sbz => exact congrArg Except.ok (decodeCmd_clear sbz)
  | readcolor idx sbz => exact congrArg Except.ok (decodeCmd_readcolor idx sbz)
  | readreg id sbz => exact congrArg Except.ok (decodeCmd_readreg id sbz)
  | reserved op payload =>
    have undefined : opDefined op = false := by simpa [Instr.operandsOk] using ok
    exact congrArg Except.ok (decodeCmd_reserved op payload undefined)
  | edgeFall => rfl
  | dispatchMotionTilt => exact congrArg Except.ok (decodeDispatch_motionTilt (of_decide_eq_true ok))
  | dispatchSpectral => exact congrArg Except.ok (decodeDispatch_spectral (of_decide_eq_true ok))
  | dispatchTelemetry => exact congrArg Except.ok (decodeDispatch_telemetry (of_decide_eq_true ok))
  | dispatchPlaceholder => exact congrArg Except.ok (decodeDispatch_placeholder (of_decide_eq_true ok))
  | dispatchExt m =>
    obtain ⟨high, lt⟩ : 4 ≤ m.toNat ∧ m.toNat < n := by simpa [Instr.operandsOk] using ok
    exact congrArg Except.ok (decodeDispatch_ext high lt)
  | dispatchUnreachable m => exact congrArg Except.ok (decodeDispatch_unreachable (of_decide_eq_true ok))

/-- No bit of a command word is dropped, and its operands are in its row's range. -/
theorem encode_decodeCmd (n : Nat) (w : U64) :
    encode (decodeCmd w) = .cmd w ∧ (decodeCmd w).operandsOk n = true := by
  rcases decodeCmd_cases w with ⟨op, e⟩ | ⟨op, e⟩ | ⟨op, e⟩ | ⟨op, e⟩ | ⟨op, e⟩ | ⟨undefined, e⟩ <;> rw [e]
  · refine ⟨?_, rfl⟩
    rw [encode, rgb_fields, packIndexed_fields op]
  · exact ⟨congrArg Code.cmd (packPlain_fields op), rfl⟩
  · exact ⟨congrArg Code.cmd (packPlain_fields op), rfl⟩
  · exact ⟨congrArg Code.cmd (packIndexed_fields op), rfl⟩
  · exact ⟨congrArg Code.cmd (packIndexed_fields op), rfl⟩
  · exact ⟨congrArg Code.cmd (packPlain_fields rfl), by simp [Instr.operandsOk, undefined]⟩

/-- The same for a mode. -/
theorem encode_decodeDispatch (n : Nat) (m : U32) :
    encode (decodeDispatch n m) = .dispatch m ∧ (decodeDispatch n m).operandsOk n = true := by
  rcases decodeDispatch_cases n m with ⟨rfl, lt, e⟩ | ⟨rfl, lt, e⟩ | ⟨rfl, lt, e⟩ | ⟨rfl, lt, e⟩ | ⟨high, lt, e⟩ |
    ⟨outside, e⟩ <;> rw [e]
  · exact ⟨rfl, decide_eq_true lt⟩
  · exact ⟨rfl, decide_eq_true lt⟩
  · exact ⟨rfl, decide_eq_true lt⟩
  · exact ⟨rfl, decide_eq_true lt⟩
  · exact ⟨rfl, by simp [Instr.operandsOk, high, lt]⟩
  · exact ⟨rfl, decide_eq_true outside⟩

theorem decode_edge (n : Nat) (e : BitVec 2) :
    decode n (.edge e) = if e = 0b10#2 then .ok .edgeFall else .error (.noEdge e) := by
  by_cases fall : e = 0b10#2 <;> simp [decode, decodeEdge, fall]

/-- Settles O2, by the code's format. -/
theorem encodeOfDecode : Obligations.EncodeOfDecode := by
  intro n c i run
  cases c with
  | cmd w =>
    cases run
    exact encode_decodeCmd n w
  | edge e =>
    rw [decode_edge] at run
    split at run
    · next fall =>
      cases run
      exact ⟨congrArg Code.edge fall.symm, rfl⟩
    · cases run
  | dispatch m =>
    cases run
    exact encode_decodeDispatch n m

/-! ### Decode is total (R93) -/

/-- The dispatch table by the number of the mode. -/
theorem decodeDispatch_eq_row {n : Nat} (m : U32) (modes : 4 ≤ n) :
    decodeDispatch n m =
      if m.toNat = 0 then .dispatchMotionTilt
      else if m.toNat = 1 then .dispatchSpectral
      else if m.toNat = 2 then .dispatchTelemetry
      else if m.toNat = 3 then .dispatchPlaceholder
      else if m.toNat < n then .dispatchExt m
      else .dispatchUnreachable m := by
  have unnamed (high : 4 ≤ m.toNat) : m.toNat ≠ 0 ∧ m.toNat ≠ 1 ∧ m.toNat ≠ 2 ∧ m.toNat ≠ 3 := by omega
  rcases decodeDispatch_cases n m with ⟨rfl, -, e⟩ | ⟨rfl, -, e⟩ | ⟨rfl, -, e⟩ | ⟨rfl, -, e⟩ | ⟨high, lt, e⟩ |
    ⟨outside, e⟩ <;> rw [e]
  · rfl
  · rfl
  · rfl
  · rfl
  · simp [unnamed high, lt]
  · simp [unnamed (modes.trans outside), Nat.not_lt.mpr outside]

/-- Settles O3: `decodeCmd_cases`, `decode_edge` and `decodeDispatch_eq_row`, one for each format. -/
theorem decodeIsTotal : Obligations.DecodeIsTotal := by
  refine ⟨fun n w => ⟨_, rfl, ?command⟩, decode_edge, fun n m modes => congrArg Except.ok (decodeDispatch_eq_row m modes)⟩
  rcases decodeCmd_cases w with ⟨-, e⟩ | ⟨-, e⟩ | ⟨-, e⟩ | ⟨-, e⟩ | ⟨-, e⟩ | ⟨undefined, e⟩ <;> rw [e]
  · exact .inr (.inl ⟨_, _, _, _, rfl⟩)
  · exact .inr (.inr (.inl ⟨_, rfl⟩))
  · exact .inr (.inr (.inr (.inl ⟨_, rfl⟩)))
  · exact .inr (.inr (.inr (.inr (.inl ⟨_, _, rfl⟩))))
  · exact .inr (.inr (.inr (.inr (.inr ⟨_, _, rfl⟩))))
  · exact .inl ⟨rfl, undefined⟩

/-- Settles O4: each word is its row's packed operands. -/
theorem specWordsDecode : Obligations.SpecWordsDecode :=
  ⟨decodeCmd_setcolor 11#32 0#8 0#8 255#8, decodeCmd_setcolor 0x80000000#32 1#8 2#8 3#8, decodeCmd_update 0#56,
    decodeCmd_clear 0#56, decodeCmd_readcolor 0xFFFFFFFF#32 0#24, decodeCmd_readreg 0xFFFFFFFF#32 0#24,
    decodeCmd_reserved 6#8 0#56 rfl, rfl, decodeDispatch_spectral (by decide)⟩

end Sys2Proof
end

section
/-! PROOFS. The strict opcode table (30_encoding.md R85, R86): its match and mask rows read as fields of a command word, and the
model's check accepts exactly the words of a row. -/

namespace Sys2Proof

/-! ### The rows as fields -/

theorem packPlain_inj {op op' : Byte} {low low' : BitVec 56} :
    packPlain op low = packPlain op' low' ↔ op = op' ∧ low = low' := by
  refine ⟨fun h => ⟨?_, ?_⟩, fun ⟨op, low⟩ => by rw [op, low]⟩
  · simpa [cmdOp_packPlain] using congrArg cmdOp h
  · simpa [cmdLow56_packPlain] using congrArg cmdLow56 h

theorem packIndexed_inj {op op' : Byte} {idx idx' : U32} {low low' : BitVec 24} :
    packIndexed op idx low = packIndexed op' idx' low' ↔ op = op' ∧ idx = idx' ∧ low = low' := by
  refine ⟨fun h => ⟨?_, ?_, ?_⟩, fun ⟨op, idx, low⟩ => by rw [op, idx, low]⟩
  · simpa [cmdOp_packIndexed] using congrArg cmdOp h
  · simpa [cmdIndex_packIndexed] using congrArg cmdIndex h
  · simpa [cmdLow24_packIndexed] using congrArg cmdLow24 h

theorem packPlain_and (op op' : Byte) (low low' : BitVec 56) :
    packPlain op low &&& packPlain op' low' = packPlain (op &&& op') (low &&& low') := BitVec.and_append

theorem packIndexed_and (op op' : Byte) (idx idx' : U32) (low low' : BitVec 24) :
    packIndexed op idx low &&& packIndexed op' idx' low' = packIndexed (op &&& op') (idx &&& idx') (low &&& low') :=
  BitVec.and_append.trans (congrArg (· ++ (low &&& low')) BitVec.and_append)

/-- The mask of R84 leaves `OP` alone. -/
theorem and_opMask (w : U64) : w &&& 0xFF00000000000000#64 = packPlain (cmdOp w) 0#56 :=
  calc w &&& 0xFF00000000000000#64
    _ = packPlain (cmdOp w) (cmdLow56 w) &&& packPlain (BitVec.allOnes 8) 0#56 := by rw [packPlain_fields rfl]; rfl
    _ = packPlain (cmdOp w) 0#56 := by rw [packPlain_and, BitVec.and_allOnes, BitVec.and_zero]

/-- The strict mask of the two reads leaves `OP` and the should-be-zero field. -/
theorem and_readMask (w : U64) : w &&& 0xFF00000000FFFFFF#64 = packIndexed (cmdOp w) 0#32 (cmdLow24 w) :=
  calc w &&& 0xFF00000000FFFFFF#64
    _ = packIndexed (cmdOp w) (cmdIndex w) (cmdLow24 w) &&&
        packIndexed (BitVec.allOnes 8) 0#32 (BitVec.allOnes 24) := by rw [packIndexed_fields rfl]; rfl
    _ = packIndexed (cmdOp w) 0#32 (cmdLow24 w) := by
        rw [packIndexed_and, BitVec.and_allOnes, BitVec.and_allOnes, BitVec.and_zero]

/-- A row that fixes `OP` alone (SETCOLOR). -/
theorem opRow_iff {w : U64} {op : Byte} : w &&& 0xFF00000000000000#64 = packPlain op 0#56 ↔ cmdOp w = op := by
  simp [and_opMask, packPlain_inj]

/-- A row that fixes the whole word (UPDATE, CLEAR). -/
theorem wordRow_iff {w : U64} {op : Byte} : w = packPlain op 0#56 ↔ cmdOp w = op ∧ cmdLow56 w = 0#56 := by
  conv_lhs => rw [← packPlain_fields (w := w) rfl, packPlain_inj]

/-- A row that fixes `OP` and bits 23:0 (READCOLOR, READREG). -/
theorem readRow_iff {w : U64} {op : Byte} :
    w &&& 0xFF00000000FFFFFF#64 = packIndexed op 0#32 0#24 ↔ cmdOp w = op ∧ cmdLow24 w = 0#24 := by
  simp [and_readMask, packIndexed_inj]

/-! ### The check -/

/-- The model's check by the fields of the word (R85, R86). -/
theorem refusedByModel_decodeCmd_eq_false_iff (w : U64) : (decodeCmd w).refusedByModel = false ↔
    cmdOp w = 1#8 ∨ (cmdOp w = 2#8 ∧ cmdLow56 w = 0#56) ∨ (cmdOp w = 3#8 ∧ cmdLow56 w = 0#56) ∨
      (cmdOp w = 4#8 ∧ cmdLow24 w = 0#24) ∨ (cmdOp w = 5#8 ∧ cmdLow24 w = 0#24) := by
  rcases decodeCmd_cases w with ⟨op, e⟩ | ⟨op, e⟩ | ⟨op, e⟩ | ⟨op, e⟩ | ⟨op, e⟩ | ⟨undefined, e⟩ <;> rw [e]
  · simp [op, Instr.refusedByModel, Instr.isReserved, Instr.sbzZero]
  · simp [op, Instr.refusedByModel, Instr.isReserved, Instr.sbzZero]
  · simp [op, Instr.refusedByModel, Instr.isReserved, Instr.sbzZero]
  · simp [op, Instr.refusedByModel, Instr.isReserved, Instr.sbzZero]
  · simp [op, Instr.refusedByModel, Instr.isReserved, Instr.sbzZero]
  · have noOp : ¬opDefined (cmdOp w) = true := by simp [undefined]
    rw [opDefined_iff] at noOp
    refine iff_of_false (by simp [Instr.refusedByModel, Instr.isReserved]) ?_
    tauto

/-- Settles O5: each row's match and mask are its fields, and `exec` takes no should-be-zero operand. -/
theorem modelCheckIsStrictTable : Obligations.ModelCheckIsStrictTable := by
  refine ⟨fun w => ?_, fun s z => ⟨rfl, rfl⟩, fun s x z => ⟨rfl, rfl⟩⟩
  rw [refusedByModel_decodeCmd_eq_false_iff, ← opRow_iff, ← wordRow_iff, ← wordRow_iff, ← readRow_iff, ← readRow_iff]
  rfl

end Sys2Proof
end

section
/-! PROOFS. The assembler (30_encoding.md R82, R90, R91): each operand by its range, then each line. -/

namespace Sys2Proof

/-! ### Operands -/

theorem asmIndex_of_range {idx : Int} (h : -2 ^ 31 ≤ idx ∧ idx < 2 ^ 31) : asmIndex idx = some (BitVec.ofInt 32 idx) :=
  if_pos (by omega)

theorem asmIndex_of_not_range {idx : Int} (h : ¬(-2 ^ 31 ≤ idx ∧ idx < 2 ^ 31)) : asmIndex idx = none :=
  if_neg (by omega)

theorem asmId_of_lt {id : Nat} (h : id < 2 ^ 32) : asmId id = some (BitVec.ofNat 32 id) := if_pos h

theorem asmId_of_ge {id : Nat} (h : 2 ^ 32 ≤ id) : asmId id = none := if_neg (Nat.not_lt.mpr h)

theorem asmByte_of_le {v : Nat} (h : v ≤ 255) : asmByte v = some (BitVec.ofNat 8 v) := if_pos h

theorem asmByte_of_not_le {v : Nat} (h : ¬v ≤ 255) : asmByte v = none := if_neg h

/-! ### Lines -/

/-- SETCOLOR with every operand in range. -/
theorem asmSetcolor_of_range {idx : Int} {r g b : Nat} (hi : -2 ^ 31 ≤ idx ∧ idx < 2 ^ 31) (hr : r ≤ 255) (hg : g ≤ 255)
    (hb : b ≤ 255) : asmSetcolor idx r g b =
      some (.setcolor (BitVec.ofInt 32 idx) (BitVec.ofNat 8 r) (BitVec.ofNat 8 g) (BitVec.ofNat 8 b)) := by
  simp [asmSetcolor, asmIndex_of_range hi, asmByte_of_le, hr, hg, hb]

/-- One operand of SETCOLOR out of range is an assembly error. -/
theorem asmSetcolor_of_not_range {idx : Int} {r g b : Nat}
    (h : ¬(-2 ^ 31 ≤ idx ∧ idx < 2 ^ 31 ∧ r ≤ 255 ∧ g ≤ 255 ∧ b ≤ 255)) : asmSetcolor idx r g b = none := by
  have bad : ¬(-2 ^ 31 ≤ idx ∧ idx < 2 ^ 31) ∨ ¬r ≤ 255 ∨ ¬g ≤ 255 ∨ ¬b ≤ 255 := by omega
  rcases bad with bad | bad | bad | bad
  · simp [asmSetcolor, asmIndex_of_not_range bad]
  · simp [asmSetcolor, asmByte_of_not_le bad]
  · simp [asmSetcolor, asmByte_of_not_le bad]
  · simp [asmSetcolor, asmByte_of_not_le bad]

/-- `setrgb24` splits its colour into the three channels (R91). -/
theorem assemble_setrgb24 (idx : Int) {r g b : Nat} (hr : r ≤ 255) (hg : g ≤ 255) (hb : b ≤ 255) :
    assemble (.setrgb24 idx (r * 65536 + g * 256 + b)) = assemble (.setcolor idx r g b) := by
  have red : (r * 65536 + g * 256 + b) / 65536 = r := by omega
  have green : (r * 65536 + g * 256 + b) / 256 % 256 = g := by omega
  have blue : (r * 65536 + g * 256 + b) % 256 = b := by omega
  have range : r * 65536 + g * 256 + b < 16777216 := by omega
  simp only [assemble, range, if_true, red, green, blue]

/-- Settles O6, line by line. -/
theorem assemblerGivesWords : Obligations.AssemblerGivesWords := by
  refine ⟨fun idx r g b => ⟨?setcolor, asmSetcolor_of_not_range⟩, rfl, rfl, fun idx => ⟨?readcolor, ?noReadcolor⟩,
    fun id => ⟨?readreg, ?noReadreg⟩, fun idx _ _ _ => assemble_setrgb24 idx, fun _ => rfl⟩
  case setcolor =>
    rintro ⟨low, high, hr, hg, hb⟩
    rw [assemble, asmSetcolor_of_range ⟨low, high⟩ hr hg hb]
    rfl
  case readcolor =>
    intro range
    rw [assemble, asmIndex_of_range range]
    rfl
  case noReadcolor =>
    intro outside
    rw [assemble, asmIndex_of_not_range outside]
    rfl
  case readreg =>
    intro range
    rw [assemble, asmId_of_lt range]
    rfl
  case noReadreg =>
    intro outside
    rw [assemble, asmId_of_ge outside]
    rfl

end Sys2Proof
end

section
/-! PROOFS. The driver commands (41_led_driver.md R101 to R106), each as a whole-state answer: the cell accesses by whether the index
is in range (R82), READREG by the register's id (10_state.md R53), and UPDATE and CLEAR at the operation level. -/

namespace Sys2Proof.Machine

/-! ### Answers (R87) -/

/-- A command that only answers is its response. -/
theorem answersOnly_respond (w : U64) (s : State) : answersOnly w s (respond w s) := rfl

/-- Settles O21: the hardware's NAK is the zero word. -/
theorem reservedAnswersNak : Obligations.ReservedAnswersNak :=
  fun s _ _ => ⟨_, rfl, nakWord_eq ▸ answersOnly_respond nakWord s⟩

/-- A value read is answered with OK and VALID set above it. -/
theorem readResp_some_toNat (v : U32) : (readResp (some v)).toNat = 0xC000000000000000 + v.toNat := by
  simp [readResp, respWord_toNat]

theorem readResp_none : readResp none = 0x8000000000000000#64 := missWord_eq

/-! ### Cells by index (R82, R101, R104) -/

section Cells

variable {s : State} {idx : U32}

theorem cellIndex_of_inRange (h : idxInRange s idx) : cellIndex s idx = some idx.toInt.toNat := if_pos h

theorem cellIndex_of_not_inRange (h : ¬idxInRange s idx) : cellIndex s idx = none := if_neg h

theorem writeCell_of_inRange (c : Color) (h : idxInRange s idx) :
    writeCell s idx c = { s with frame := s.frame.set idx.toInt.toNat c } := by
  rw [writeCell, cellIndex_of_inRange h]

theorem writeCell_of_not_inRange (c : Color) (h : ¬idxInRange s idx) : writeCell s idx c = s := by
  rw [writeCell, cellIndex_of_not_inRange h]

theorem readCell_of_inRange (h : idxInRange s idx) : readCell s idx = s.frame[idx.toInt.toNat]? := by
  rw [readCell, cellIndex_of_inRange h]

theorem readCell_of_not_inRange (h : ¬idxInRange s idx) : readCell s idx = none := by
  rw [readCell, cellIndex_of_not_inRange h]

theorem frame_length_of_wf (wf : frameWf s = true) : s.frame.length = s.cfg.n := by simpa [frameWf] using wf

/-- An index in range names a cell of a well-formed Frame. -/
theorem lt_frame_length_of_inRange (wf : frameWf s = true) (h : idxInRange s idx) : idx.toInt.toNat < s.frame.length := by
  have len := frame_length_of_wf wf
  obtain ⟨low, high⟩ := h
  omega

/-- A cell write changes the Frame alone. -/
theorem writeCell_eq (s : State) (idx : U32) (c : Color) :
    writeCell s idx c = { s with frame := (writeCell s idx c).frame } := by
  unfold writeCell
  split <;> rfl

/-- The cell written holds the colour. -/
theorem writeCell_frame_same (c : Color) (wf : frameWf s = true) (h : idxInRange s idx) :
    (writeCell s idx c).frame[idx.toInt.toNat]? = some c := by
  rw [writeCell_of_inRange c h]
  exact List.getElem?_set_self (lt_frame_length_of_inRange wf h)

/-- Every other cell keeps its colour. -/
theorem writeCell_frame_other (s : State) (c : Color) {j : Nat} (ne : (j : Int) ≠ idx.toInt) :
    (writeCell s idx c).frame[j]? = s.frame[j]? := by
  by_cases h : idxInRange s idx
  · rw [writeCell_of_inRange c h]
    have low := h.1
    exact List.getElem?_set_ne (by omega)
  · rw [writeCell_of_not_inRange c h]

end Cells

/-- Settles O14, by the cell written, the other cells, and an index out of range. -/
theorem setcolorWritesOneCell : Obligations.SetcolorWritesOneCell := by
  intro s idx r g b wf
  refine ⟨decodeCmd_setcolor idx r g b, _, rfl, ?answer, writeCell_frame_length s idx _, writeCell_frame_same _ wf,
    fun j => writeCell_frame_other s _, fun h => ?outside⟩
  case answer =>
    rw [respond_frame, ← writeCell_eq, ← ackWord_eq]
    exact answersOnly_respond _ _
  case outside => rw [respond_frame, writeCell_of_not_inRange _ h]

/-- READCOLOR answers what the read of the cell gives, and nothing else (R104). -/
theorem exec_readcolor (idx : U32) (z : BitVec 24) (s : State) :
    exec (.readcolor idx z) s = .next (respond (readResp ((readCell s idx).map colorData)) s) := rfl

/-- The word that answers a cell's colour. -/
theorem readResp_color_toNat (c : Color) : (readResp ((some c).map colorData)).toNat =
    0xC000000000000000 + c.r.toNat * 65536 + c.g.toNat * 256 + c.b.toNat := by
  rw [Option.map_some, readResp_some_toNat, colorData_toNat]
  omega

/-- Settles O15, by whether the index is in range. -/
theorem readcolorAnswersCell : Obligations.ReadcolorAnswersCell := by
  intro s idx z wf
  refine ⟨decodeCmd_readcolor idx z, _, _, exec_readcolor idx z s, answersOnly_respond _ s, fun h => ?hit, fun h => ?miss⟩
  case hit =>
    have cell := List.getElem?_eq_getElem (lt_frame_length_of_inRange wf h)
    refine ⟨_, cell, ?_⟩
    rw [readCell_of_inRange h, cell]
    exact readResp_color_toNat _
  case miss =>
    rw [readCell_of_not_inRange h]
    exact readResp_none

/-- Two index words name one cell only if they are the same word, so another word reads the same before and after a write. -/
theorem readCell_writeCell_other (s : State) {idx idx' : U32} (c : Color) (ne : idx' ≠ idx) :
    readCell (writeCell s idx c) idx' = readCell s idx' := by
  have range : idxInRange (writeCell s idx c) idx' ↔ idxInRange s idx' := by simp [idxInRange]
  by_cases h : idxInRange s idx'
  · rw [readCell_of_inRange (range.mpr h), readCell_of_inRange h]
    refine writeCell_frame_other s c ?_
    rw [Int.toNat_of_nonneg h.1]
    exact mt BitVec.toInt_inj.mp ne
  · rw [readCell_of_not_inRange (mt range.mp h), readCell_of_not_inRange h]

theorem readCell_writeCell_same {s : State} {idx : U32} (c : Color) (wf : frameWf s = true) (h : idxInRange s idx) :
    readCell (writeCell s idx c) idx = some c := by
  have range : idxInRange (writeCell s idx c) idx := by simpa [idxInRange] using h
  rw [readCell_of_inRange range, writeCell_frame_same c wf h]

/-- A response changes no cell. -/
@[simp] theorem readCell_respond (w : U64) (s : State) (idx : U32) : readCell (respond w s) idx = readCell s idx := rfl

/-- Settles O16: the cell written reads back, and another index reads as before. -/
theorem readbackAfterSetcolor : Obligations.ReadbackAfterSetcolor := by
  intro s idx r g b z wf
  refine ⟨respond ackWord (writeCell s idx ⟨r, g, b⟩), rfl, fun h => ?same, fun idx' ne => ?other⟩
  case same =>
    refine ⟨_, _, exec_readcolor idx z _, answersOnly_respond _ _, ?_⟩
    rw [readCell_respond, readCell_writeCell_same _ wf h]
    exact readResp_color_toNat _
  case other =>
    refine ⟨_, _, _, exec_readcolor idx' z s, exec_readcolor idx' z _, answersOnly_respond _ s, ?_⟩
    rw [readCell_respond, readCell_writeCell_other s _ ne]
    exact answersOnly_respond _ _

/-! ### Registers by id (R105; 10_state.md R53) -/

/-- An id past the last register names none. -/
theorem readReg_of_ge (s : State) {id : U32} (h : 6 ≤ id.toNat) : readReg s id = none := by
  have ne : ∀ k < 6, id ≠ BitVec.ofNat 32 k := by
    rintro k lt rfl
    rw [BitVec.toNat_ofNat] at h
    omega
  simp [readReg, ne 0, ne 1, ne 2, ne 3, ne 4, ne 5]

/-- Settles O17, register by register: the response's data is the register's value. -/
theorem readregAnswersRegister : Obligations.ReadregAnswersRegister := by
  intro s id z
  have word : ∀ k, id.toNat = k → id = BitVec.ofNat 32 k := by
    rintro k rfl
    rw [BitVec.ofNat_toNat, BitVec.setWidth_eq]
  refine ⟨_, readResp (readReg s id), rfl, answersOnly_respond _ s, fun h => ?mode, fun h => ?curMode, fun h => ?status,
    fun h => ?n, fun h => ?l, fun h => ?numModes, fun h => ?miss⟩
  case mode =>
    rw [word 0 h]
    exact readResp_some_toNat _
  case curMode =>
    rw [word 1 h]
    exact readResp_some_toNat _
  case status =>
    rw [word 2 h]
    exact (readResp_some_toNat _).trans (by rw [statusWord_toNat, Nat.add_assoc])
  case n =>
    rw [word 3 h]
    exact (readResp_some_toNat _).trans (by rw [BitVec.toNat_ofNat])
  case l =>
    rw [word 4 h]
    exact (readResp_some_toNat _).trans (by rw [BitVec.toNat_ofNat])
  case numModes =>
    rw [word 5 h]
    exact (readResp_some_toNat _).trans (by rw [BitVec.toNat_ofNat])
  case miss =>
    rw [readReg_of_ge s h]
    exact readResp_none

/-! ### Whole frames (R102, R103) -/

/-- A frame has 24 bits for each of the `N` cells (R116). -/
theorem frameBits_length_of_wf {s : State} (wf : frameWf s = true) :
    (frameBits s.cfg.wireOrder s.frame).length = 24 * s.cfg.n := by
  rw [frameBits_length, frame_length_of_wf wf]

/-- A frame sent whole leaves the serializer's registers and the log as the frame's cells give them. -/
theorem frameSentFrom_frameSent {s : State} (wf : frameWf s = true) : frameSentFrom s.frame s (frameSent s) := by
  rw [frameSentFrom, ← frameBits_length_of_wf wf, ← ackWord_eq]
  rfl

/-- The same of a frame sent black. -/
theorem frameSentFrom_blackFrame (s : State) :
    frameSentFrom (List.replicate s.cfg.n Color.black) s (frameSent (blackFrame s)) :=
  frameSentFrom_frameSent (frameWf_blackFrame s)

/-- Settles O18. -/
theorem updateSendsFrame : Obligations.UpdateSendsFrame :=
  fun _ _ level wf => ⟨_, sendFrame_operation level, frameSentFrom_frameSent wf⟩

/-- Settles O19: the bits of a black Frame are zeros. -/
theorem clearBlacksAndSends : Obligations.ClearBlacksAndSends := by
  intro s z level
  refine ⟨_, sendFrame_operation (s := blackFrame s) level, frameSentFrom_blackFrame s, ?_⟩
  rw [← frameBits_black s.cfg.wireOrder]
  rfl

/-- A black Frame reads black at every index in range. -/
theorem readCell_of_black {s t : State} {idx : U32} (cfg : t.cfg = s.cfg)
    (black : t.frame = List.replicate s.cfg.n Color.black) (h : idxInRange s idx) : readCell t idx = some Color.black := by
  have range : idxInRange t idx := by rwa [idxInRange, cfg]
  obtain ⟨low, high⟩ := h
  rw [readCell_of_inRange range, black]
  exact List.getElem?_replicate_of_lt (by omega)

/-- Settles O20: at either level the Frame is black in the state CLEAR goes on to. -/
theorem readbackAfterClear : Obligations.ReadbackAfterClear := by
  intro s z idx z' h
  have clear : ∃ t, exec (.clear z) s = .next t ∧ t.cfg = s.cfg ∧ t.frame = List.replicate s.cfg.n Color.black := by
    rcases sendFrame_cases (blackFrame s) with ⟨-, e⟩ | ⟨-, e⟩
    · exact ⟨_, e, rfl, rfl⟩
    · exact ⟨_, e, rfl, rfl⟩
  obtain ⟨t, run, cfg, black⟩ := clear
  refine ⟨t, _, run, exec_readcolor idx z' t, ?_⟩
  rw [readCell_of_black cfg black h]
  exact answersOnly_respond _ t

end Sys2Proof.Machine
end

section
/-! PROOFS. The frame on the wire (41_led_driver.md R116, R117): each bit by its place, and that under a permutation wire order the
bits determine the cells. -/

namespace Sys2Proof.Machine

/-! ### Each bit by its place -/

theorem frameBits_cons (o : WireOrder) (c : Color) (f : List Color) :
    frameBits o (c :: f) = bits24 (wire24 o c) ++ frameBits o f := List.flatMap_cons

/-- Every cell before a bit takes 24 places (R116). -/
theorem frameBits_getElem? (o : WireOrder) {f : List Color} {i : Nat} {c : Color} (cell : f[i]? = some c) {k : Nat}
    (lt : k < 24) : (frameBits o f)[24 * i + k]? = (bits24 (wire24 o c))[k]? := by
  induction f generalizing i with
  | nil => simp at cell
  | cons d f ih =>
    have len := bits24_length (wire24 o d)
    rw [frameBits_cons]
    cases i with
    | zero =>
      obtain rfl : d = c := by simpa using cell
      rw [Nat.mul_zero, Nat.zero_add]
      exact List.getElem?_append_left (by omega)
    | succ i =>
      rw [List.getElem?_append_right (by omega), show 24 * (i + 1) + k - (bits24 (wire24 o d)).length = 24 * i + k by omega]
      exact ih (by simpa using cell)

/-- A wire word goes out from its top bit down (R116). -/
theorem bits24_getElem? (w : BitVec 24) {k : Nat} (lt : k < 24) : (bits24 w)[k]? = some (w.getLsbD (23 - k)) := by
  simp [bits24, lt, BitVec.getMsbD]

/-- Settles O22: the bits before a cell, then those of its wire word, whose three bytes are the channels. -/
theorem frameBitsOrder : Obligations.FrameBitsOrder := by
  refine ⟨fun c => ⟨rfl, rfl, rfl⟩, fun o f => ⟨frameBits_length o f, fun i c cell k lt => ⟨?first, ?second, ?third⟩⟩⟩
  case first =>
    rw [frameBits_getElem? o cell (by omega), bits24_getElem? _ (by omega), wire24, getLsbD_rgb, if_neg (by omega),
      if_neg (by omega), show 23 - k - 16 = 7 - k by omega]
  case second =>
    rw [Nat.add_assoc, frameBits_getElem? o cell (by omega), bits24_getElem? _ (by omega), wire24, getLsbD_rgb,
      if_neg (by omega), if_pos (by omega), show 23 - (8 + k) - 8 = 7 - k by omega]
  case third =>
    rw [Nat.add_assoc, frameBits_getElem? o cell (by omega), bits24_getElem? _ (by omega), wire24, getLsbD_rgb,
      if_pos (by omega), show 23 - (16 + k) = 7 - k by omega]

/-! ### The bits determine the cells -/

/-- A byte is its eight bits. -/
theorem byte_eq_of_bits {x y : Byte} (h : ∀ k < 8, x.getLsbD (7 - k) = y.getLsbD (7 - k)) : x = y := by
  refine BitVec.eq_of_getLsbD_eq fun i hi => ?_
  have bit := h (7 - i) (by omega)
  rwa [show 7 - (7 - i) = i by omega] at bit

/-- A permutation names every channel (R117). -/
theorem WireOrder.mem_of_isPermutation {o : WireOrder} (perm : o.isPermutation = true) (ch : Channel) :
    ch = o.first ∨ ch = o.second ∨ ch = o.third := by
  obtain ⟨x, y, z⟩ := o
  simp only [WireOrder.isPermutation, Bool.and_eq_true, bne_iff_ne] at perm ⊢
  grind [cases Channel]

/-- The wire's channels are the colour's when the wire order is a permutation. -/
theorem color_eq_of_channels {o : WireOrder} (perm : o.isPermutation = true) {c d : Color}
    (first : channelOf o.first c = channelOf o.first d) (second : channelOf o.second c = channelOf o.second d)
    (third : channelOf o.third c = channelOf o.third d) : c = d := by
  have channel : ∀ ch, channelOf ch c = channelOf ch d := by
    intro ch
    rcases WireOrder.mem_of_isPermutation perm ch with rfl | rfl | rfl
    · exact first
    · exact second
    · exact third
  obtain ⟨r, g, b⟩ := c
  congr 1
  · exact channel .r
  · exact channel .g
  · exact channel .b

/-- Settles O23: equal bits make frames of one length, whose cells agree channel by channel (`frameBitsOrder`). -/
theorem frameBitsDetermineCells : Obligations.FrameBitsDetermineCells := by
  intro o f f' perm same
  obtain ⟨-, order⟩ := frameBitsOrder
  obtain ⟨len, bits⟩ := order o f
  obtain ⟨len', bits'⟩ := order o f'
  rw [← same] at len' bits'
  refine List.ext_getElem (by omega) fun i hi hi' => ?_
  have cell := bits i _ (List.getElem?_eq_getElem hi)
  have cell' := bits' i _ (List.getElem?_eq_getElem hi')
  have agree : ∀ k < 8, (channelOf o.first f[i]).getLsbD (7 - k) = (channelOf o.first f'[i]).getLsbD (7 - k) ∧
      (channelOf o.second f[i]).getLsbD (7 - k) = (channelOf o.second f'[i]).getLsbD (7 - k) ∧
      (channelOf o.third f[i]).getLsbD (7 - k) = (channelOf o.third f'[i]).getLsbD (7 - k) := by
    intro k hk
    obtain ⟨x, y, z⟩ := cell k hk
    obtain ⟨x', y', z'⟩ := cell' k hk
    exact ⟨Option.some.inj (x.symm.trans x'), Option.some.inj (y.symm.trans y'), Option.some.inj (z.symm.trans z')⟩
  exact color_eq_of_channels perm (byte_eq_of_bits fun k hk => (agree k hk).1)
    (byte_eq_of_bits fun k hk => (agree k hk).2.1) (byte_eq_of_bits fun k hk => (agree k hk).2.2)

end Sys2Proof.Machine
end

section
/-! PROOFS. The serializer with no events to come (41_led_driver.md R119 to R123): each part of a frame (the HIGH and the LOW part of a
bit, the latch gap) is a run of ticks ended by one step, the parts follow each other, and the whole frame ends where the operation
level's one step ends. -/

namespace Sys2Proof.Machine

/-! ### Runs -/

/-- `n` steps lead from `s` to `u`, and `P` holds of the state before each of them. -/
def RunsThrough (P : State → Prop) (n : Nat) (s u : State) : Prop :=
  (∀ k, k < n → ∃ v, runSteps k s = .next v ∧ P v) ∧ runSteps n s = .next u

theorem RunsThrough.mono {P Q : State → Prop} {n : Nat} {s u : State} (run : RunsThrough P n s u) (imp : ∀ v, P v → Q v) :
    RunsThrough Q n s u := by
  obtain ⟨before, finish⟩ := run
  exact ⟨fun k lt => (before k lt).imp fun v => And.imp_right (imp v), finish⟩

theorem RunsThrough.refl (P : State → Prop) (s : State) : RunsThrough P 0 s s := ⟨nofun, rfl⟩

/-- One run after another. -/
theorem RunsThrough.trans {P : State → Prop} {m n : Nat} {s t u : State} (first : RunsThrough P m s t)
    (second : RunsThrough P n t u) : RunsThrough P (m + n) s u := by
  obtain ⟨before, reach⟩ := first
  obtain ⟨after, finish⟩ := second
  have shift : ∀ k, runSteps (m + k) s = runSteps k t := fun k => by rw [runSteps_add, reach, thenNext_next]
  refine ⟨fun k lt => ?_, (shift n).trans finish⟩
  by_cases early : k < m
  · exact before k early
  · obtain ⟨v, run, hv⟩ := after (k - m) (by omega)
    exact ⟨v, by rw [← run, ← shift, Nat.add_sub_cancel' (by omega)], hv⟩

/-- With no events to come a step inside a frame is a cycle of the serializer. -/
theorem step_eq_serCycle {s : State} (conf : s.cfg.conforming = true) (script : s.script = []) {k : Nat}
    (phase : s.seqPhase = .ser k) : step s = .next (serCycle s) := by
  rw [step_of_conforming conf, nextEvent_of_seqTurn (s' := s) (by rw [seqTurn, script]), seqStep_of_ser phase]

/-! ### One part of a frame -/

/-- A part of a frame begins, with no events to come. -/
structure PartBegins (s : State) : Prop where
  conforming : s.cfg.conforming = true
  script : s.script = []
  phase : ∃ k, s.seqPhase = .ser k
  count : s.serCnt = 0#32
  wraps : s.serWraps = 0

/-- `v` is `s` with some cycles of the part spent: only the counters differ. -/
def InPart (s v : State) : Prop := v = { s with serCnt := v.serCnt, serWraps := v.serWraps }

section Part

variable {s u : State} (h : PartBegins s) {d : Nat}
  (cycle : ∀ v, InPart s v → serCycle v = if serElapsed v + 1 < d then serTick v else u)
include h

/-- `k` cycles into the part: its counters hold `k` (R42). -/
theorem PartBegins.elapsed (k : Nat) : serElapsed (serTick^[k] s) = k := by
  induction k with
  | zero => exact serElapsed_zero h.count h.wraps
  | succ k ih => rw [Function.iterate_succ_apply', serElapsed_serTick, ih]

theorem PartBegins.inPart (k : Nat) : InPart s (serTick^[k] s) := by
  rw [serTick_iterate h.count h.wraps]
  rfl

/-- A step from `k` cycles into the part is the serializer's cycle there. -/
theorem PartBegins.step_iterate (k : Nat) : step (serTick^[k] s) = .next (serCycle (serTick^[k] s)) := by
  obtain ⟨p, phase⟩ := h.phase
  have inPart := h.inPart k
  exact step_eq_serCycle (by rw [inPart]; exact h.conforming) (by rw [inPart]; exact h.script) (by rw [inPart]; exact phase)

include cycle

/-- Inside a part that counts to `d`, `k` steps are `k` ticks. -/
theorem PartBegins.runSteps_eq_ticks {k : Nat} (lt : k < d) : runSteps k s = .next (serTick^[k] s) := by
  induction k with
  | zero => rfl
  | succ k ih =>
    rw [runSteps_add, ih (by omega), thenNext_next, runSteps_succ, h.step_iterate, cycle _ (h.inPart k), h.elapsed,
      if_pos lt, Function.iterate_succ_apply']
    rfl

/-- A part that counts to `d` takes `d` steps; the last of them ends it in `u`. -/
theorem PartBegins.runsThrough (pos : 0 < d) : RunsThrough (InPart s) d s u := by
  refine ⟨fun k lt => ⟨_, h.runSteps_eq_ticks cycle lt, h.inPart k⟩, ?_⟩
  obtain ⟨k, rfl⟩ : ∃ k, d = k + 1 := ⟨d - 1, by omega⟩
  rw [runSteps_add, h.runSteps_eq_ticks cycle (by omega), thenNext_next, runSteps_succ, h.step_iterate,
    cycle _ (h.inPart k), h.elapsed, if_neg (lt_irrefl _)]
  rfl

end Part

/-! ### A bit (R119) -/

/-- The LOW part of the bit begins. -/
def beginLow (s : State) : State := { s with serCnt := 0#32, serWraps := 0, serSub := .low, linkOut := false }

/-- Bit `j` begins, or, when the frame has no bit `j`, the latch gap (R115, R120). -/
def beginBit (j : Nat) (s : State) : State :=
  if j < s.serBits.length then
    { s with serCnt := 0#32, serWraps := 0, serSub := .high, linkOut := true, serPos := j, seqPhase := .ser j }
  else startGap { s with serPos := j, seqPhase := .ser j }

theorem beginBit_of_lt {s : State} {j : Nat} (lt : j < s.serBits.length) : beginBit j s =
    { s with serCnt := 0#32, serWraps := 0, serSub := .high, linkOut := true, serPos := j, seqPhase := .ser j } := if_pos lt

theorem beginBit_of_not_lt {s : State} {j : Nat} (sent : ¬j < s.serBits.length) :
    beginBit j s = startGap { s with serPos := j, seqPhase := .ser j } := if_neg sent

theorem highCycle_eq (v : Bool) (s : State) :
    highCycle v s = if serElapsed s + 1 < highTime s.cfg v then serTick s else beginLow s := rfl

theorem lowCycle_eq (v : Bool) (s : State) :
    lowCycle v s = if serElapsed s + 1 < lowTime s.cfg v then serTick s else beginBit (s.serPos + 1) s := rfl

theorem PartBegins.low_begins {s : State} (h : PartBegins s) : PartBegins (beginLow s) :=
  { h with count := rfl, wraps := rfl }

section Bit

variable {s : State} {v : Bool} (bit : s.serBits[s.serPos]? = some v)
include bit

theorem serCycle_inHigh (sub : s.serSub = .high) {u : State} (inPart : InPart s u) :
    serCycle u = if serElapsed u + 1 < highTime s.cfg v then serTick u else beginLow s := by
  have read : serCycle u = highCycle v u := serCycle_of_high (by rw [inPart]; exact sub) (by rw [inPart]; exact bit)
  rw [read, highCycle_eq, inPart]
  rfl

theorem serCycle_inLow (sub : s.serSub = .low) {u : State} (inPart : InPart s u) :
    serCycle u = if serElapsed u + 1 < lowTime s.cfg v then serTick u else beginBit (s.serPos + 1) s := by
  have read : serCycle u = lowCycle v u := serCycle_of_low (by rw [inPart]; exact sub) (by rw [inPart]; exact bit)
  rw [read, lowCycle_eq, inPart]
  rfl

end Bit

section BitRun

variable {s : State} (h : PartBegins s) {v : Bool} (bit : s.serBits[s.serPos]? = some v)
include h bit

/-- The HIGH part takes `TvH` cycles. -/
theorem PartBegins.runs_high (sub : s.serSub = .high) :
    RunsThrough (InPart s) (highTime s.cfg v) s (beginLow s) :=
  h.runsThrough (fun _ => serCycle_inHigh bit sub) (highTime_pos h.conforming v)

/-- The LOW part takes `TvL` cycles. -/
theorem PartBegins.runs_low (sub : s.serSub = .low) :
    RunsThrough (InPart s) (lowTime s.cfg v) s (beginBit (s.serPos + 1) s) :=
  h.runsThrough (fun _ => serCycle_inLow bit sub) (lowTime_pos h.conforming v)

end BitRun

/-- Settles O25: the HIGH part, then the LOW part, each with the line as it began. -/
theorem bitEnvelope : Obligations.BitEnvelope := by
  intro s v conf script phase sub count wraps line bit
  have begins : PartBegins s := ⟨conf, script, ⟨_, phase⟩, count, wraps⟩
  obtain ⟨high, toLow⟩ := begins.runs_high bit sub
  obtain ⟨low, toNext⟩ := begins.low_begins.runs_low bit rfl
  have afterHigh : ∀ k, runSteps (highTime s.cfg v + k) s = runSteps k (beginLow s) := fun k => by
    rw [runSteps_add, toLow, thenNext_next]
  have bounds := conforming_bounds conf
  refine ⟨⟨rfl, rfl, by omega, by omega⟩, fun k lt => ?level, beginBit (s.serPos + 1) s, (afterHigh _).trans toNext, ?next⟩
  case level =>
    by_cases early : k < highTime s.cfg v
    · obtain ⟨t, run, inPart⟩ := high k early
      exact ⟨t, run, by rw [inPart]; simp [line, early]⟩
    · obtain ⟨t, run, inPart⟩ := low (k - highTime s.cfg v) (by simp only [beginLow]; omega)
      refine ⟨t, ?_, by rw [inPart]; simp [beginLow, early]⟩
      rw [← run, ← afterHigh, Nat.add_sub_cancel' (by omega)]
  case next =>
    unfold beginBit
    split
    · exact ⟨rfl, rfl, rfl, rfl, rfl, rfl, fun _ => ⟨rfl, rfl⟩, fun past => absurd past (by omega)⟩
    · exact ⟨rfl, rfl, rfl, rfl, rfl, rfl, fun next => absurd next ‹_›, fun _ => ⟨rfl, rfl⟩⟩

/-! ### The latch gap (R120, R121) -/

theorem serCycle_inGap {s u : State} (sub : s.serSub = .gap) (inPart : InPart s u) :
    serCycle u = if serElapsed u + 1 < s.cfg.tReset then serTick u else completeFrame s := by
  have read : serCycle u = gapCycle u := serCycle_of_gap (by rw [inPart]; exact sub)
  rw [read, gapCycle, inPart]
  rfl

/-- The latch gap takes TRESET cycles, and its last one completes the frame. -/
theorem PartBegins.runs_gap {s : State} (h : PartBegins s) (sub : s.serSub = .gap) :
    RunsThrough (InPart s) s.cfg.tReset s (completeFrame s) := by
  have bounds := conforming_bounds h.conforming
  exact h.runsThrough (fun _ => serCycle_inGap sub) (by omega)

/-- Settles O26: TRESET ticks less one, then the completion, whose ACK is its only answer. -/
theorem latchGapThenCompletion : Obligations.LatchGapThenCompletion := by
  intro s conf script phase sub count wraps line busy
  have begins : PartBegins s := ⟨conf, script, phase, count, wraps⟩
  obtain ⟨-, finish⟩ := begins.runs_gap sub
  refine ⟨fun k lt => ?held, completeFrame s, finish, ?complete⟩
  case held =>
    have run := begins.runSteps_eq_ticks (fun _ => serCycle_inGap sub) lt
    rw [serTick_iterate count wraps] at run
    exact ⟨_, run, rfl, line, busy⟩
  case complete =>
    rw [completeFrame, ackWord_eq, ← count, ← wraps]
    exact answersOnly_respond _ _

/-! ### The whole frame (R102, R121, R123) -/

/-- `v` is in the same frame as `s`: the block is as busy, and the log and the cells are as they were. -/
structure SameFrame (s v : State) : Prop where
  busy : v.busy = s.busy
  log : v.linkLog = s.linkLog
  cells : v.frame = s.frame

theorem SameFrame.of_inPart {s t v : State} (same : SameFrame s t) (inPart : InPart t v) : SameFrame s v := by
  rw [inPart]
  exact ⟨same.busy, same.log, same.cells⟩

theorem sameFrame_beginBit (j : Nat) (s : State) : SameFrame s (beginBit j s) := by
  unfold beginBit
  split <;> exact ⟨rfl, rfl, rfl⟩

/-- What bit begins next does not depend on the one before. -/
theorem beginBit_beginBit (i j : Nat) (s : State) : beginBit j (beginBit i s) = beginBit j s := by
  by_cases lt : i < s.serBits.length
  · rw [beginBit_of_lt lt]
    rfl
  · rw [beginBit_of_not_lt lt]
    rfl

section Frame

variable {s : State} (h : PartBegins s)
include h

theorem PartBegins.bit_begins (j : Nat) : PartBegins (beginBit j s) := by
  unfold beginBit
  split
  · exact { h with phase := ⟨j, rfl⟩, count := rfl, wraps := rfl }
  · exact { h with phase := ⟨j, rfl⟩, count := rfl, wraps := rfl }

/-- A bit takes one period, whatever its value, and then the next begins (R119). -/
theorem PartBegins.runs_bit {j : Nat} (lt : j < s.serBits.length) :
    RunsThrough (SameFrame s) (s.cfg.t0h + s.cfg.t0l) (beginBit j s) (beginBit (j + 1) s) := by
  have begins := h.bit_begins j
  have next := beginBit_beginBit j (j + 1) s
  have same := sameFrame_beginBit j s
  rw [beginBit_of_lt lt] at begins next same ⊢
  have bit := List.getElem?_eq_getElem lt
  have high := (begins.runs_high bit rfl).mono fun v => same.of_inPart
  have low := (begins.low_begins.runs_low bit rfl).mono fun v => SameFrame.of_inPart ⟨same.busy, same.log, same.cells⟩
  rw [← highTime_add_lowTime h.conforming (s.serBits[j]), ← next]
  exact high.trans low

/-- The bits go out one period each, from the first. -/
theorem PartBegins.runs_bits {j : Nat} (le : j ≤ s.serBits.length) :
    RunsThrough (SameFrame s) (j * (s.cfg.t0h + s.cfg.t0l)) (beginBit 0 s) (beginBit j s) := by
  induction j with
  | zero => simpa using RunsThrough.refl _ _
  | succ j ih =>
    rw [Nat.succ_mul]
    exact (ih (by omega)).trans (h.runs_bit (by omega))

/-- A whole frame: every bit, then the latch gap. -/
theorem PartBegins.runs_frame : RunsThrough (SameFrame s) (s.serBits.length * (s.cfg.t0h + s.cfg.t0l) + s.cfg.tReset)
    (beginBit 0 s) (completeFrame (beginBit s.serBits.length s)) := by
  have gap := h.bit_begins s.serBits.length
  have same := sameFrame_beginBit s.serBits.length s
  have bits := h.runs_bits le_rfl
  rw [beginBit_of_not_lt (lt_irrefl _)] at gap same bits ⊢
  exact bits.trans ((gap.runs_gap rfl).mono fun v => same.of_inPart)

end Frame

/-- The frame a start begins runs bit by bit to the state the operation level reaches in one step. -/
theorem startFrame_runsThrough {s : State} (conf : s.cfg.conforming = true) (script : s.script = []) (wf : frameWf s = true) :
    RunsThrough (SameFrame (startFrame s)) (24 * s.cfg.n * (s.cfg.t0h + s.cfg.t0l) + s.cfg.tReset) (startFrame s)
      (frameSent s) := by
  have begins : PartBegins (startFrame s) := ⟨conf, script, ⟨0, rfl⟩, rfl, rfl⟩
  have len := frameBits_length_of_wf wf
  have bounds := conforming_bounds conf
  have first : beginBit 0 (startFrame s) = startFrame s := beginBit_of_lt (by rw [startFrame_serBits, len]; omega)
  have last : completeFrame (beginBit (startFrame s).serBits.length (startFrame s)) = frameSent s := by
    rw [beginBit_of_not_lt (lt_irrefl _)]
    rfl
  have run := begins.runs_frame
  rw [first, last, startFrame_serBits, len] at run
  exact run

/-- A started frame ends, after its whole duration, as one step sends it, and until then the block is busy with the same frame. -/
theorem startFrame_refines {s : State} (conf : s.cfg.conforming = true) (script : s.script = []) (wf : frameWf s = true) :
    ∃ u, runSteps (24 * s.cfg.n * (s.cfg.t0h + s.cfg.t0l) + s.cfg.tReset) (startFrame s) = .next u ∧
      frameSentFrom s.frame s u ∧
      ∀ k v, k < 24 * s.cfg.n * (s.cfg.t0h + s.cfg.t0l) + s.cfg.tReset → runSteps k (startFrame s) = .next v →
        v.busy = true ∧ v.linkLog = s.linkLog ∧ v.frame = s.frame := by
  obtain ⟨before, finish⟩ := startFrame_runsThrough conf script wf
  refine ⟨_, finish, frameSentFrom_frameSent wf, fun k v lt run => ?_⟩
  obtain ⟨w, run', same⟩ := before k lt
  cases run.symm.trans run'
  exact ⟨same.busy, same.log, same.cells⟩

/-- Settles O24: UPDATE starts the frame of the cells as they stand, CLEAR that of the black ones. -/
theorem serializerRefinesOneStep : Obligations.SerializerRefinesOneStep := by
  rintro s z i cells conf level script wf (⟨rfl, rfl⟩ | ⟨rfl, rfl⟩)
  · obtain ⟨u, run, sent, busy⟩ := startFrame_refines conf script wf
    exact ⟨_, u, sendFrame_timing level, rfl, rfl, run, sent, busy⟩
  · obtain ⟨u, run, sent, busy⟩ := startFrame_refines (s := blackFrame s) conf script (frameWf_blackFrame s)
    exact ⟨_, u, sendFrame_timing (s := blackFrame s) level, rfl, rfl, run, sent, busy⟩

end Sys2Proof.Machine
end

section
/-! PROOFS. The command port (41_led_driver.md R100; 60_exceptions.md R210, R213, R217) and the link in every step (R122, R124): the
step in EXT_RUN takes the worker's oldest word, the line rises only where a bit begins, and LINK_LOG grows by whole frames. -/

namespace Sys2Proof.Machine

/-! ### The command a step takes (R70, R100) -/

/-- SEQ in EXT_RUN takes the oldest word of the worker that holds the free port. -/
theorem extRunStep_eq_takeCommand {s : State} {m : U32} {w : U64} {q : List (U32 × WorkerMsg)} (grant : s.grant = .ext m)
    (free : s.busy = false) (oldest : takeMessage m s.workerQ = some (.cmd w, q)) :
    extRunStep s = takeCommand w { s with workerQ := q } := by
  have worker : extRunStep s = extRunWith m s := by rw [extRunStep, grant]
  rw [worker, extRunWith, if_pos (portAccepts_iff.mpr ⟨grant, rfl, free⟩), oldest]

/-- Settles O7: `takeMessage` finds the word, and the check decides whether it runs. -/
theorem stepRunsPresentedCommand : Obligations.StepRunsPresentedCommand := by
  intro s s' m w pre post conf turn phase grant free queue older
  have script := seqTurn_eq turn
  have taken : step s = takeCommand w { s' with workerQ := pre ++ post } := by
    have oldest : takeMessage m s'.workerQ = some (.cmd w, pre ++ post) :=
      takeMessage_eq_some_iff.mpr ⟨pre, post, by rw [script]; exact queue, rfl, older⟩
    rw [step_of_conforming conf, nextEvent_of_seqTurn turn, seqStep_of_extRun (by rw [script]; exact phase),
      extRunStep_eq_takeCommand (by rw [script]; exact grant) (by rw [script]; exact free) oldest]
  have record : noteRefusal w { s' with workerQ := pre ++ post } = { s' with
      workerQ := pre ++ post
      refusals := if (decodeCmd w).refusedByModel then s.refusals ++ [w] else s.refusals } := by rw [script]; rfl
  rw [taken, ← record]
  rcases takeCommand_cases w { s' with workerQ := pre ++ post } with ⟨check, refused, e⟩ | ⟨accepted, e⟩
  · have check : s.cfg.check = .refuse := by rw [← check, script]
    exact ⟨fun accepted => by simp [check, refused] at accepted, fun _ => e⟩
  · have accepted : s.cfg.check = .hardware ∨ (decodeCmd w).refusedByModel = false := by
      rw [script] at accepted
      exact accepted
    exact ⟨fun _ => e, fun ⟨check, refused⟩ => by simp [check, refused] at accepted⟩

/-! ### The line (R122) -/

/-- `t` stands at the start of a bit. -/
structure AtBitStart (t : State) : Prop where
  sub : t.serSub = .high
  count : t.serCnt = 0#32
  wraps : t.serWraps = 0
  phase : t.seqPhase = .ser t.serPos

theorem startFrame_atBitStart (s : State) : AtBitStart (startFrame s) := ⟨rfl, rfl, rfl, rfl⟩

/-- The line is high where a bit begins, and low where the latch gap does. -/
theorem beginBit_atBitStart {j : Nat} {s : State} (high : (beginBit j s).linkOut = true) : AtBitStart (beginBit j s) := by
  by_cases lt : j < s.serBits.length
  · rw [beginBit_of_lt lt]
    exact ⟨rfl, rfl, rfl, rfl⟩
  · rw [beginBit_of_not_lt lt] at high
    exact nomatch high

/-- A command leaves the line alone or low, or starts a frame. -/
theorem exec_decodeCmd_linkOut {w : U64} {s t : State} (run : exec (decodeCmd w) s = .next t) (high : t.linkOut = true) :
    s.linkOut = true ∨ AtBitStart t := by
  obtain ⟨u, hu, cases⟩ := exec_decodeCmd_cases w s
  cases hu.symm.trans run
  rcases cases with ⟨-, idx, c, rfl⟩ | ⟨x, rfl⟩ | ⟨s0, -, ⟨-, rfl⟩ | ⟨-, rfl⟩⟩
  · exact .inl (by simpa using high)
  · exact .inl high
  · exact nomatch high
  · exact .inr (startFrame_atBitStart s0)

/-- SEQ raises the line only where a bit begins. -/
theorem SeqMove.linkOut_cases {s t : State} (move : SeqMove s t) (high : t.linkOut = true) :
    s.linkOut = true ∨ AtBitStart t := by
  cases move with
  | emit => exact .inl (by simpa using high)
  | flush _ _ _ _ _ _ _ send =>
    rcases sendFrame_cases s with ⟨-, e⟩ | ⟨-, e⟩ <;> cases e.symm.trans send
    · exact nomatch high
    · exact .inr (startFrame_atBitStart s)
  | command _ _ _ _ _ _ _ _ _ run => exact (exec_decodeCmd_linkOut run high :)
  | high k v =>
    rw [highCycle_eq] at high
    split at high
    · exact .inl high
    · exact nomatch high
  | low k v =>
    rw [lowCycle_eq] at high ⊢
    by_cases more : serElapsed s + 1 < lowTime s.cfg v
    · rw [if_pos more] at high
      exact .inl high
    · rw [if_neg more] at high ⊢
      exact .inr (beginBit_atBitStart high)
  | sent => exact nomatch high
  | _ => exact .inl high

/-- Settles O27, by the kind of the step: only SEQ moves the line up, and the invariant holds it low while idle. -/
theorem linkRisesOnlyAtBitStart : Obligations.LinkRisesOnlyAtBitStart := by
  refine ⟨fun s t run low high => ?rise, fun s t h run => (stepKeepsInv s t h run).idle⟩
  have notHigh : s.linkOut ≠ true := by simp [low]
  rcases step_cases run with ⟨s', turn, move⟩ | ⟨level, rest, -, rfl⟩ | ⟨v, rest, -, rfl⟩ | ⟨m, msg, rest, -, rfl⟩ |
    ⟨level, rest, -, rfl⟩
  · rw [seqTurn_eq turn] at move
    rcases (seqStep_move move).linkOut_cases high with before | start
    · exact absurd before notHigh
    · exact ⟨start.sub, start.count, start.wraps, start.phase⟩
  · exact absurd (by split at high <;> exact high) notHigh
  · exact absurd (by simpa using high) notHigh
  · exact absurd high notHigh
  · exact nomatch high

/-! ### The log (R118, R124) -/

/-- The log is as it was, or has the bits of the whole Frame as it stands. -/
def LogGrowsByFrame (s t : State) : Prop :=
  t.linkLog = s.linkLog ∨ t.linkLog = s.linkLog ++ [frameBits t.cfg.wireOrder t.frame]

/-- A command sends the whole Frame or leaves the log alone. -/
theorem exec_decodeCmd_linkLog {w : U64} {s t : State} (run : exec (decodeCmd w) s = .next t) : LogGrowsByFrame s t := by
  obtain ⟨u, hu, cases⟩ := exec_decodeCmd_cases w s
  cases hu.symm.trans run
  rcases cases with ⟨-, idx, c, rfl⟩ | ⟨x, rfl⟩ | ⟨s0, start, send⟩
  · exact .inl (by simp)
  · exact .inl rfl
  · have log : s0.linkLog = s.linkLog := by rcases start with rfl | ⟨-, rfl⟩ <;> rfl
    rw [LogGrowsByFrame, ← log]
    rcases send with ⟨-, rfl⟩ | ⟨-, rfl⟩
    · exact .inr rfl
    · exact .inl rfl

/-- SEQ sends the whole Frame in one step, or completes the frame whose bits it holds. -/
theorem SeqMove.linkLog_cases {s t : State} (move : SeqMove s t) (h : Inv s) : LogGrowsByFrame s t := by
  cases move with
  | emit => exact .inl (by simp)
  | flush _ _ _ _ _ _ _ send =>
    rcases sendFrame_cases s with ⟨-, e⟩ | ⟨-, e⟩ <;> cases e.symm.trans send
    · exact .inr rfl
    · exact .inl rfl
  | command _ _ _ _ _ _ _ _ _ run => exact (exec_decodeCmd_linkLog run :)
  | complete k phase => exact .inr (by rw [completeFrame_linkLog, (h.ser k phase).bits]; rfl)
  | high k v =>
    rw [highCycle_eq]
    split <;> exact .inl rfl
  | low k v =>
    rw [lowCycle_eq]
    split
    · exact .inl rfl
    · exact .inl (sameFrame_beginBit _ s).log
  | _ => exact .inl rfl

/-- While a frame is in flight SEQ's cycle leaves the Frame alone (R100): every writer of the Frame needs a free port. -/
theorem SeqMove.frame_of_busy {s t : State} (move : SeqMove s t) (h : Inv s) (busy : s.busy = true) : t.frame = s.frame := by
  obtain ⟨k, inFlight⟩ := h.busy.mp busy
  rcases move.frame_cases with kept | ⟨b, phase, -⟩ | ⟨m, w, q, phase, -⟩
  · exact kept
  · exact nomatch inFlight.symm.trans phase
  · exact nomatch inFlight.symm.trans phase

/-- Settles O28, by the kind of the step; that a frame logged is whole is the shape the invariant gives the Frame. -/
theorem noPartialFrame : Obligations.NoPartialFrame := by
  intro s t h run noReset
  have shape := (stepKeepsInv s t h run).shape
  have kept : (s.busy = true → t.frame = s.frame) ∧ LogGrowsByFrame s t := by
    rcases step_cases run with ⟨s', turn, move⟩ | ⟨level, rest, -, rfl⟩ | ⟨v, rest, -, rfl⟩ | ⟨m, msg, rest, -, rfl⟩ |
      ⟨level, rest, reset, -⟩
    · rw [seqTurn_eq turn] at move
      have inv := h.withScript s'.script
      exact ⟨(seqStep_move move).frame_of_busy inv, (seqStep_move move).linkLog_cases inv⟩
    · split <;> exact ⟨fun _ => rfl, .inl rfl⟩
    · exact ⟨fun _ => by simp, .inl (by simp)⟩
    · exact ⟨fun _ => rfl, .inl rfl⟩
    · exact absurd reset (noReset level rest)
  obtain ⟨cells, log⟩ := kept
  exact ⟨cells, log.imp_right fun whole => ⟨whole, shape.frame⟩⟩

end Sys2Proof.Machine
end

section
/-! PROOFS. The Spectral Mapper's stages (42_spectral_mapper.md R145 to R162), each as what it computes: a lemma per stage function,
by the element, and from it the step of SEQ that runs the stage. -/

namespace Sys2Proof.Machine

/-! ### What a spectral configuration gives (R240) -/

theorem transformLength_le {l : Nat} (h : isTransformLength l = true) : l ≤ 65536 := by
  simp only [isTransformLength, List.any_eq_true, List.mem_range, beq_iff_eq] at h
  obtain ⟨m, lt, rfl⟩ := h
  exact Nat.pow_le_pow_right (by decide) (show m + 1 ≤ 16 by omega)

/-- The bounds the stages rest on. -/
theorem spectralOk_bounds {c : Config} (h : c.spectralOk = true) :
    c.l ≤ 65536 ∧ 1 ≤ c.normDen ∧ c.specMask.isBits = true := by
  simp only [Config.spectralOk, Bool.and_eq_true, decide_eq_true_eq] at h
  obtain ⟨⟨⟨⟨⟨⟨⟨length, _⟩, _⟩, _⟩, _⟩, den⟩, _⟩, mask⟩ := h
  exact ⟨transformLength_le length, den, mask⟩

/-- A whole array a stage has written is read back. -/
theorem readElems_of_map {α : Type} {n : Nat} {xs : List (Option α)} {ys : List α} (h : xs = ys.map some)
    (len : ys.length = n) : readElems n xs = some ys := by
  rw [h, ← len, readElems_map_some]

/-! ### Acquire (R145 to R147) -/

/-- Acquire takes the oldest sample that waits. -/
theorem seqStep_of_sample {s : State} {j : Nat} {v : Q15} {rest : List Q15} (phase : s.seqPhase = .spmAcquire j)
    (on : s.specOk = true) (ok : s.cfg.spectralOk = true) (lt : j < s.cfg.l) (queue : s.sampleQ = v :: rest) :
    seqStep s = .next { s with
      sb := s.sb.set j (some v), sampleQ := if j + 1 < s.cfg.l then rest else [], seqPhase := .spmAcquire (j + 1) } := by
  rw [seqStep_of_acquire phase on ok, acquireStep, if_pos lt, queue]

/-- After the loop acquire goes on to the window. -/
theorem seqStep_of_acquired {s : State} (phase : s.seqPhase = .spmAcquire s.cfg.l) (on : s.specOk = true)
    (ok : s.cfg.spectralOk = true) : seqStep s = .next { s with seqPhase := .spmWindow } := by
  rw [seqStep_of_acquire phase on ok, acquireStep, if_neg (lt_irrefl _)]

/-- Settles O41, by whether a sample is still to come. -/
theorem acquireTakesOneSample : Obligations.AcquireTakesOneSample := by
  intro s j v rest on ok phase len
  refine ⟨fun lt queue => ⟨_, seqStep_of_sample phase on ok lt queue, rfl, ?stored, ?others, ?more, ?last⟩, ?done⟩
  case stored => exact List.getElem?_set_self (len ▸ lt)
  case others => exact fun n ne => List.getElem?_set_ne ne.symm
  case more => exact fun more => if_pos more
  case last => exact fun last => if_neg (by omega)
  case done =>
    rintro rfl
    exact seqStep_of_acquired phase on ok

/-! ### Window (R150) -/

theorem q15_abs_le (a : Q15) : |a.toInt| ≤ 32768 := by
  have low := a.le_toInt
  have high := a.toInt_lt
  exact abs_le.mpr (by omega)

theorem mul_q15_abs_le {x b : Int} (h : |x| ≤ b) (w : Q15) : |x * w.toInt| ≤ b * 32768 := by
  rw [abs_mul]
  exact mul_le_mul h (q15_abs_le w) (abs_nonneg _) ((abs_nonneg _).trans h)

/-- Half a unit added before the shift is R150's rounding. -/
theorem roundQ30_eq_shiftRight (p : Int) : roundQ30 p = (p + 2 ^ 14) >>> (15 : Nat) := by
  rw [Int.shiftRight_eq_div_pow]
  rfl

theorem windowed_toInt (a w : Q15) : (windowed a w).toInt = sat16 (roundQ30 (a.toInt * w.toInt)) :=
  ofInt16_toInt (sat16_range _).1 (sat16_range _).2

/-- A factor off the minimum keeps the product within what rounds into the `s16` range. -/
theorem q15_mul_abs_le {a : Q15} (h : a.toInt ≠ -32768) (w : Q15) : |a.toInt * w.toInt| ≤ 32767 * 32768 := by
  obtain ⟨low, -⟩ := abs_le.mp (q15_abs_le a)
  have high := a.toInt_lt
  exact mul_q15_abs_le (abs_le.mpr (by omega)) w

/-- Settles O43: unless both factors are the minimum, the one that is not bounds the product. -/
theorem windowSaturatesOnlyAtMinimum : Obligations.WindowSaturatesOnlyAtMinimum := by
  intro a w
  rw [windowed_toInt, ← roundQ30_eq_shiftRight]
  by_cases corner : a.toInt = -32768 ∧ w.toInt = -32768
  · obtain ⟨ha, hw⟩ := corner
    exact .inr ⟨ha, hw, by rw [ha, hw]; decide⟩
  · have bound : |a.toInt * w.toInt| ≤ 32767 * 32768 := by
      rcases not_and_or.mp corner with ha | hw
      · exact q15_mul_abs_le ha w
      · rw [mul_comm]
        exact q15_mul_abs_le hw a
    obtain ⟨low, high⟩ := abs_le.mp bound
    exact .inl (sat16_of_range (by unfold roundQ30; omega) (by unfold roundQ30; omega))

theorem windowStage_getElem? {c : Config} {x : List Q15} {n : Nat} {a w : Q15} (sample : x[n]? = some a)
    (coeff : c.window[n]? = some w) : (windowStage c x)[n]? = some (windowed a w) := by
  simp [windowStage, List.getElem?_zipWith, sample, coeff]

/-- Settles O42: the stage is `windowed` on each element. -/
theorem windowStageComputes : Obligations.WindowStageComputes := by
  intro s x on ok phase written len
  refine ⟨_, seqStep_of_window phase on ok (readElems_of_map written len), rfl, by simpa using windowStage_length ok len,
    fun n a w sample coeff => ⟨windowed a w, by simp [windowStage_getElem? sample coeff], ?_⟩⟩
  rw [windowed_toInt, roundQ30_eq_shiftRight, sat16]

/-! ### Transform (R153, R154) -/

/-- A sum over the elements of a list at marked places is the sum over those places. -/
theorem sum_filter_zipIdx {α M : Type} [AddCommMonoid M] (xs : List α) (d : α) (p : Nat → Bool) (f : α × Nat → M) :
    ((xs.zipIdx.filter fun e => p e.2).map f).sum = ∑ i ∈ (Finset.range xs.length).filter (p ·), f (xs.getD i d, i) := by
  have places : xs.zipIdx = (List.range xs.length).map fun i => (xs.getD i d, i) :=
    List.ext_getElem (by simp) (by simp +contextual)
  rw [places, List.filter_map, List.map_map, ← Multiset.sum_coe, ← Multiset.map_coe]
  congr 2
  simp [Function.comp_def, Finset.filter, Multiset.range]

theorem sum_zipIdx {α M : Type} [AddCommMonoid M] (xs : List α) (d : α) (f : α × Nat → M) :
    (xs.zipIdx.map f).sum = ∑ i ∈ Finset.range xs.length, f (xs.getD i d, i) := by
  simpa using sum_filter_zipIdx xs d (fun _ => true) f

theorem correlate_eq_sum (t : List Q15) (l k : Nat) (xw : List Q15) :
    correlate t l k xw = ∑ n ∈ Finset.range xw.length, (xw.getD n 0#16).toInt * (t.getD ((n * k) % l) 0#16).toInt :=
  sum_zipIdx xw 0#16 _

/-- The bound of R154: at most 2^16 terms of size at most 2^30. -/
theorem correlate_abs_le (t : List Q15) (l k : Nat) {xw : List Q15} (len : xw.length ≤ 65536) :
    |correlate t l k xw| ≤ 2 ^ 46 := by
  have each := Finset.sum_le_card_nsmul (Finset.range xw.length) _ (32768 * 32768)
    fun n _ => mul_q15_abs_le (q15_abs_le (xw.getD n 0#16)) (t.getD ((n * k) % l) 0#16)
  rw [Finset.card_range, nsmul_eq_mul] at each
  calc |correlate t l k xw| ≤ _ := by rw [correlate_eq_sum]; exact Finset.abs_sum_le_sum_abs _ _
    _ ≤ xw.length * (32768 * 32768) := each
    _ ≤ 2 ^ 46 := by omega

/-- A sum that R154 bounds survives its 64-bit word. -/
theorem ofInt64_toInt_of_abs_le {v : Int} (h : |v| ≤ 2 ^ 46) : (BitVec.ofInt 64 v).toInt = v := by
  obtain ⟨low, high⟩ := abs_le.mp h
  exact ofInt64_toInt (by omega) (by omega)

theorem reStage_getElem? (c : Config) (xw : List Q15) {k : Nat} (le : k ≤ c.l / 2) :
    (reStage c xw)[k]? = some (BitVec.ofInt 64 (dftRe c xw k)) := by
  simp [reStage, Nat.lt_succ_of_le le]

theorem imStage_getElem? (c : Config) (xw : List Q15) {k : Nat} (le : k ≤ c.l / 2) :
    (imStage c xw)[k]? = some (BitVec.ofInt 64 (dftIm c xw k)) := by
  simp [imStage, Nat.lt_succ_of_le le]

/-- Settles O44: each bin is a correlation, which fits its word. -/
theorem dftStageIsExact : Obligations.DftStageIsExact := by
  intro s x on ok phase written len
  refine ⟨_, seqStep_of_dft phase on ok (readElems_of_map written len), rfl, by simp [reStage_length], by simp [imStage_length],
    fun k le => ⟨BitVec.ofInt 64 (dftRe s.cfg x k), BitVec.ofInt 64 (dftIm s.cfg x k),
      by simp [reStage_getElem? s.cfg x le], by simp [imStage_getElem? s.cfg x le], ?_⟩⟩
  have short : x.length ≤ 65536 := len ▸ (spectralOk_bounds ok).1
  have re : |dftRe s.cfg x k| ≤ 2 ^ 46 := correlate_abs_le _ _ _ short
  have im : |dftIm s.cfg x k| ≤ 2 ^ 46 := by
    rw [dftIm, abs_neg]
    exact correlate_abs_le _ _ _ short
  rw [ofInt64_toInt_of_abs_le re, ofInt64_toInt_of_abs_le im]
  exact ⟨by rw [dftRe, correlate_eq_sum, len], by rw [dftIm, correlate_eq_sum, len], re, im⟩

/-! ### Magnitude (R156) -/

/-- The magnitude is the floor of the length over 2^15. -/
theorem magnitude_spec (a b : Int) : ((magnitude a b : Int) * 2 ^ 15) ^ 2 ≤ a ^ 2 + b ^ 2 ∧
    a ^ 2 + b ^ 2 < (((magnitude a b : Int) + 1) * 2 ^ 15) ^ 2 := by
  obtain ⟨low, high⟩ := isqrt_spec (a * a + b * b).toNat
  have square : ((a * a + b * b).toNat : Int) = a ^ 2 + b ^ 2 := by
    rw [Int.toNat_of_nonneg (add_nonneg (mul_self_nonneg a) (mul_self_nonneg b)), sq, sq]
  have floor : magnitude a b = isqrt (a * a + b * b).toNat / 32768 := rfl
  have below : magnitude a b * 2 ^ 15 ≤ isqrt (a * a + b * b).toNat := by omega
  have above : isqrt (a * a + b * b).toNat + 1 ≤ (magnitude a b + 1) * 2 ^ 15 := by omega
  rw [← square]
  constructor
  · exact_mod_cast (Nat.pow_le_pow_left below 2).trans (by rwa [sq])
  · exact_mod_cast lt_of_lt_of_le high (by rw [← sq]; exact Nat.pow_le_pow_left above 2)

theorem magnitude_lt {a b : Int} (ha : |a| ≤ 2 ^ 46) (hb : |b| ≤ 2 ^ 46) : magnitude a b < 2 ^ 32 := by
  have sqa : a ^ 2 ≤ (2 ^ 46) ^ 2 := sq_le_sq.mpr ha
  have sqb : b ^ 2 ≤ (2 ^ 46) ^ 2 := sq_le_sq.mpr hb
  have len := (magnitude_spec a b).1
  have : (magnitude a b : Int) * 2 ^ 15 < 2 ^ 47 := lt_of_pow_lt_pow_left₀ 2 (by decide) (by omega)
  omega

theorem magStage_getElem? {x y : List U64} {k : Nat} {a b : U64} (re : x[k]? = some a) (im : y[k]? = some b) :
    (magStage x y)[k]? = some (BitVec.ofNat 64 (magnitude a.toInt b.toInt)) := by
  simp [magStage, List.getElem?_zipWith, re, im]

/-- Settles O45: the bins R154 allows keep the magnitude in its word. -/
theorem magnitudeIsFloorOfLength : Obligations.MagnitudeIsFloorOfLength := by
  intro s x y on ok phase writtenRe writtenIm lenRe lenIm small
  refine ⟨_, seqStep_of_mag phase on ok (readElems_of_map writtenRe lenRe) (readElems_of_map writtenIm lenIm), rfl,
    by simpa using magStage_length lenRe lenIm, fun k a b re im => ⟨BitVec.ofNat 64 (magnitude a.toInt b.toInt), ?_⟩⟩
  have lt : magnitude a.toInt b.toInt < 2 ^ 32 := magnitude_lt
    (small a (List.mem_append_left y (List.mem_of_getElem? re))) (small b (List.mem_append_right x (List.mem_of_getElem? im)))
  obtain ⟨low, high⟩ := magnitude_spec a.toInt b.toInt
  rw [BitVec.toNat_ofNat, Nat.mod_eq_of_lt (by omega)]
  exact ⟨by simp [magStage_getElem? re im], low, high, lt⟩

/-! ### Reduce (R158 to R160) -/

/-- The bins of a band are those the band's edges enclose. -/
theorem mem_bandBins_iff {c : Config} {mag : List U64} {b v : Nat} : v ∈ bandBins c mag b ↔
    ∃ (k : Nat) (m : U64), mag[k]? = some m ∧
      (c.edges.getD b 0 ≤ (k : Int) ∧ (k : Int) < c.edges.getD (b + 1) 0) ∧ m.toNat = v := by
  simp only [bandBins, List.mem_map, List.mem_filter, Prod.exists, List.mk_mem_zipIdx_iff_getElem?, inBand_iff, and_assoc]
  exact exists_comm

/-- The peak of a band bounds its magnitudes and is one of them, or 0. -/
theorem reduceBand_peak_spec (xs : List Nat) :
    (∀ x ∈ xs, x ≤ reduceBand .peak xs) ∧ (reduceBand .peak xs = 0 ∨ reduceBand .peak xs ∈ xs) := by
  rw [reduceBand, List.foldl_max, Nat.zero_max]
  cases peak : xs.max? with
  | none => simp [List.max?_eq_none_iff.mp peak]
  | some m =>
    obtain ⟨mem, le⟩ := List.max?_eq_some_iff.mp peak
    exact ⟨le, .inr mem⟩

theorem bandStage_getElem? (c : Config) (mag : List U64) {b : Nat} (lt : b < c.n) :
    (bandStage c mag)[b]? = some (BitVec.ofNat 64 (reduceBand c.reduce (bandBins c mag b))) := by
  simp [bandStage, lt]

/-- Settles O46: the peak is a `u64` magnitude of the band or 0, so it fits its word. -/
theorem peakReduction : Obligations.PeakReduction := by
  intro s x on ok phase peak written len
  refine ⟨_, seqStep_of_reduce phase on ok (readElems_of_map written len), rfl, by simp [bandStage_length],
    fun b lt => ⟨_, by rw [List.getElem?_map, bandStage_getElem? s.cfg x lt, peak]; rfl, ?_⟩⟩
  obtain ⟨bound, attained⟩ := reduceBand_peak_spec (bandBins s.cfg x b)
  generalize reduceBand .peak (bandBins s.cfg x b) = v at bound attained
  replace attained := attained.imp_right mem_bandBins_iff.mp
  have fits : (BitVec.ofNat 64 v).toNat = v := by
    rw [BitVec.toNat_ofNat]
    refine Nat.mod_eq_of_lt ?_
    rcases attained with rfl | ⟨k, m, -, -, rfl⟩
    · decide
    · exact m.isLt
  rw [fits]
  refine ⟨fun k m bin inside => bound _ (mem_bandBins_iff.mpr ⟨k, m, bin, inside, rfl⟩), attained, fun small => ?_⟩
  rcases attained with rfl | ⟨k, m, bin, -, rfl⟩
  · decide
  · exact small m (List.mem_of_getElem? bin)

/-- The sum of a band, by its bins. -/
theorem reduceBand_sum_eq (c : Config) (mag : List U64) (b : Nat) : reduceBand .sum (bandBins c mag b) =
    ∑ k ∈ (Finset.range mag.length).filter
        (fun k : Nat => c.edges.getD b 0 ≤ (k : Int) ∧ (k : Int) < c.edges.getD (b + 1) 0),
      (mag.getD k 0#64).toNat := by
  rw [reduceBand, bandBins, sum_filter_zipIdx mag 0#64]
  simp only [inBand_iff]

/-- The magnitudes of at most `L/2 + 1` bins sum to less than 2^48 (R159). -/
theorem sum_magnitudes_lt {mag : List U64} (bins : Finset Nat) (few : bins.card ≤ 32769)
    (small : ∀ m ∈ mag, m.toNat < 2 ^ 32) : ∑ k ∈ bins, (mag.getD k 0#64).toNat < 2 ^ 48 := by
  have each : ∀ k ∈ bins, (mag.getD k 0#64).toNat ≤ 2 ^ 32 := by
    intro k _
    cases bin : mag[k]? with
    | none => simp [bin]
    | some m => simpa [bin] using (small m (List.mem_of_getElem? bin)).le
  have total := Finset.sum_le_card_nsmul bins _ _ each
  rw [smul_eq_mul] at total
  omega

/-- Settles O47: the sum over the band's bins, which fits its word. -/
theorem sumReduction : Obligations.SumReduction := by
  intro s x on ok phase sum written len small
  refine ⟨_, seqStep_of_reduce phase on ok (readElems_of_map written len), rfl, by simp [bandStage_length],
    fun b lt => ⟨_, by rw [List.getElem?_map, bandStage_getElem? s.cfg x lt, sum]; rfl, ?_⟩⟩
  have length := (spectralOk_bounds ok).1
  have few := Finset.card_filter_le (Finset.range (s.cfg.l / 2 + 1))
    fun k : Nat => s.cfg.edges.getD b 0 ≤ (k : Int) ∧ (k : Int) < s.cfg.edges.getD (b + 1) 0
  rw [Finset.card_range] at few
  have bound := sum_magnitudes_lt _ (few.trans (by omega)) small
  rw [reduceBand_sum_eq, len, BitVec.toNat_ofNat, Nat.mod_eq_of_lt (by omega)]
  exact ⟨rfl, bound⟩

/-! ### Normalise (R162, R163) -/

theorem normalised_mono (den : Nat) {u v : Nat} (h : u ≤ v) : normalised den u ≤ normalised den v :=
  min_le_min_left 255 (Nat.div_le_div_right (Nat.mul_le_mul_right 255 h))

/-- From `NORM_DEN` on the intensity is full. -/
theorem normalised_of_le {den v : Nat} (pos : 1 ≤ den) (h : den ≤ v) : normalised den v = 255 :=
  min_eq_left ((Nat.le_div_iff_mul_le pos).mpr (by omega))

theorem normalised_zero (den : Nat) : normalised den 0 = 0 := by simp [normalised]

/-- The intensity word of a band value. -/
def intensity (c : Config) (v : U64) : Byte := BitVec.ofNat 8 (normalised c.normDen v.toNat)

theorem intensity_toNat (c : Config) (v : U64) : (intensity c v).toNat = normalised c.normDen v.toNat := by
  rw [intensity, BitVec.toNat_ofNat]
  exact Nat.mod_eq_of_lt (by unfold normalised; omega)

theorem normStage_getElem? (c : Config) {x : List U64} {b : Nat} {v : U64} (band : x[b]? = some v) :
    (normStage c x)[b]? = some (intensity c v) := by
  simp [normStage, band, intensity]

/-- Settles O48: each intensity is `normalised` of its band. -/
theorem normaliseScalesAndClamps : Obligations.NormaliseScalesAndClamps := by
  intro s x on ok phase written len
  refine ⟨_, seqStep_of_norm phase on ok (readElems_of_map written len), rfl, by simpa using normStage_length s.cfg len,
    fun b v band => ⟨intensity s.cfg v, by simp [normStage_getElem? s.cfg band], ?_⟩, ?mono⟩
  · rw [intensity_toNat]
    refine ⟨rfl, normalised_of_le (spectralOk_bounds ok).2.1, fun zero => ?_⟩
    rw [zero, normalised_zero]
  case mono =>
    intro b c u v y z low high le hy hz
    obtain rfl : intensity s.cfg u = y := by simpa [normStage_getElem? s.cfg low] using hy
    obtain rfl : intensity s.cfg v = z := by simpa [normStage_getElem? s.cfg high] using hz
    rw [intensity_toNat, intensity_toNat]
    exact normalised_mono _ le

end Sys2Proof.Machine
end

section
/-! PROOFS. The emit stage and the whole spectral pass (42_spectral_mapper.md R140, R166, R168; 43_mode_scheduler.md R192): one
state equation for each part of the pass, composed from SPM_ACQUIRE(0) to the boundary, and what silent samples give in each stage. -/

namespace Sys2Proof.Machine

/-! ### The emit stage (R164, R166) -/

theorem mul_mask {m : Nat} (v : Byte) (bit : m ≤ 1) : BitVec.ofNat 8 (v.toNat * m) = if m = 1 then v else 0#8 := by
  interval_cases m <;> simp

/-- A mask bit lets the intensity through or holds the channel at 0 (R164). -/
theorem specColor_eq {m : SpecMask} (bits : m.isBits = true) (v : Byte) :
    specColor m v = ⟨if m.mr = 1 then v else 0#8, if m.mg = 1 then v else 0#8, if m.mb = 1 then v else 0#8⟩ := by
  simp only [SpecMask.isBits, Bool.and_eq_true, decide_eq_true_eq] at bits
  obtain ⟨⟨red, green⟩, blue⟩ := bits
  rw [specColor, mul_mask v red, mul_mask v green, mul_mask v blue]

/-- A spectral pass at work, with SPM holding the free port. -/
structure PassActive (s : State) : Prop where
  conforming : s.cfg.conforming = true
  on : s.specOk = true
  spectral : s.cfg.spectralOk = true
  grant : s.grant = .spm
  free : s.busy = false

theorem Inv.passActive {s : State} (h : Inv s) (notSer : ∀ k, s.seqPhase ≠ .ser k) (grant : s.grant = .spm)
    (on : s.specOk = true) : PassActive s :=
  ⟨h.conforming, on, h.specOk ▸ on, grant, h.busy_eq_false notSer⟩

/-- The port takes SPM's command. -/
theorem PassActive.portAccepts {s : State} (h : PassActive s) : portAccepts .spm true s = true :=
  portAccepts_iff.mpr ⟨h.grant, rfl, h.free⟩

/-- A cell is written, and SPM takes the response. -/
theorem PassActive.seqStep_cell {s : State} {b : Nat} {v : Byte} (h : PassActive s) (phase : s.seqPhase = .spmEmit b)
    (lt : b < s.cfg.n) (read : s.inten[b]? = some (some v)) :
    seqStep s = .next { s with
      frame := s.frame.set b (specColor s.cfg.specMask v), seqPhase := .spmEmit (b + 1)
      respLog := s.respLog ++ [(.spm, ackWord)], spmResp := none } := by
  obtain ⟨-, small, -⟩ := conforming_bounds h.conforming
  rw [seqStep_of_emit phase h.on h.spectral, emitStep, if_pos h.portAccepts, if_pos lt, withElem_of_get read,
    takeCommand_setcolorWord, writeCell_ofNat _ lt small, thenNext_next, emitNext, ← h.grant]
  rfl

/-- After the cells SPM issues its UPDATE. -/
theorem PassActive.seqStep_update {s : State} (h : PassActive s) (phase : s.seqPhase = .spmEmit s.cfg.n) (resp : s.spmResp = none) :
    seqStep s = sendFrame s := by
  rw [seqStep_of_emit phase h.on h.spectral, emitStep, if_pos h.portAccepts, if_neg (lt_irrefl _), resp]
  exact takeCommand_updateWord s

/-- Once the UPDATE has responded the quantum ends. -/
theorem PassActive.seqStep_end {s : State} {w : U64} (h : PassActive s) (phase : s.seqPhase = .spmEmit s.cfg.n)
    (resp : s.spmResp = some w) : seqStep s = .next (emitDone s) := by
  rw [seqStep_of_emit phase h.on h.spectral, emitStep, if_pos h.portAccepts, if_neg (lt_irrefl _), resp]

/-- Settles O49: the command is a SETCOLOR of cell `b`, which the Frame has. -/
theorem emitWritesBandColour : Obligations.EmitWritesBandColour := by
  intro s b v h phase lt read
  obtain ⟨grant, on, -⟩ := h.phaseOk_of_eq phase nofun
  have active := h.passActive (by simp [phase]) grant on
  have resp : s.spmResp = none := h.spmResp_eq_none (by simpa [phase] using lt.ne)
  refine ⟨_, active.seqStep_cell phase lt read, by rw [← ackWord_eq, ← resp], ?_, fun j ne => List.getElem?_set_ne ne.symm⟩
  rw [← specColor_eq (spectralOk_bounds active.spectral).2.2]
  exact List.getElem?_set_self (h.shape.frame ▸ lt)

/-! ### Runs of a pass (R140) -/

/-- A spectral pass at work with no events to come. -/
structure PassRuns (s : State) : Prop extends PassActive s where
  script : s.script = []

/-- A pass is at work for as long as the fields it rests on stay. -/
theorem PassRuns.of_kept {s t : State} (h : PassRuns s)
    (kept : (t.cfg, t.specOk, t.grant, t.busy, t.script) = (s.cfg, s.specOk, s.grant, s.busy, s.script)) : PassRuns t := by
  obtain ⟨⟨conf, on, ok, grant, free⟩, script⟩ := h
  simp only [Prod.mk.injEq] at kept
  obtain ⟨hcfg, hon, hgrant, hbusy, hscript⟩ := kept
  exact ⟨⟨hcfg ▸ conf, hon.trans on, hcfg ▸ ok, hgrant.trans grant, hbusy.trans free⟩, hscript.trans script⟩

/-- With no events to come a step is SEQ's. -/
theorem PassRuns.step_eq {s : State} (h : PassRuns s) : step s = seqStep s := by
  rw [step_of_conforming h.conforming, nextEvent_of_seqTurn (s' := s) (by rw [seqTurn, h.script])]

/-- A pass's step, then the rest of its run. -/
theorem PassRuns.runSteps_succ {s t u : State} {k : Nat} (h : PassRuns s) (first : seqStep s = .next t)
    (kept : (t.cfg, t.specOk, t.grant, t.busy, t.script) = (s.cfg, s.specOk, s.grant, s.busy, s.script))
    (rest : PassRuns t → runSteps k t = .next u) : runSteps (k + 1) s = .next u := by
  rw [Machine.runSteps_succ, h.step_eq, first, thenNext_next, rest (h.of_kept kept)]

theorem runSteps_trans {s t u : State} {j k : Nat} (first : runSteps j s = .next t) (rest : runSteps k t = .next u) :
    runSteps (j + k) s = .next u := by
  rw [runSteps_add, first, thenNext_next, rest]

/-- An array filled up to `j` and then at `j` is filled up to `j + 1`. -/
theorem take_succ_set_append {α : Type} {xs : List α} {j : Nat} (v : α) (ys : List α) (lt : j < xs.length) :
    (xs.set j v).take (j + 1) ++ ys = xs.take j ++ v :: ys := by
  rw [List.set_eq_take_append_cons_drop, if_pos lt]
  simp [List.take_append, lt.le]

/-- The samples that wait fill the rest of SB (R145). -/
theorem PassRuns.runs_acquire {s : State} {j : Nat} {x : List Q15} (h : PassRuns s) (phase : s.seqPhase = .spmAcquire j)
    (sb : s.sb.length = s.cfg.l) (queue : s.sampleQ = x) (enough : j + x.length = s.cfg.l) :
    runSteps x.length s = .next { s with sb := s.sb.take j ++ x.map some, sampleQ := [], seqPhase := .spmAcquire s.cfg.l } := by
  induction x generalizing s j with
  | nil =>
    obtain rfl : j = s.cfg.l := enough
    refine congrArg Host.Outcome.next ?_
    rw [List.take_of_length_le sb.le, List.map_nil, List.append_nil, ← queue, ← phase]
  | cons v x ih =>
    rw [List.length_cons] at enough ⊢
    have lt : j < s.cfg.l := by omega
    have rest : (if j + 1 < s.cfg.l then x else []) = x := by
      split
      · rfl
      · exact (List.eq_nil_of_length_eq_zero (by omega)).symm
    have next := seqStep_of_sample phase h.on h.spectral lt queue
    refine h.runSteps_succ next rfl fun runs =>
      (ih (j := j + 1) runs rfl (List.length_set.trans sb) rest (by rw [← enough]; omega)).trans ?_
    rw [take_succ_set_append _ _ (sb ▸ lt), List.map_cons]

/-- The stages between the acquisition and the emit stage, on the samples `sb` (R150 to R162). -/
def stagesDone (sb : List Q15) (s : State) : State :=
  let xw := windowStage s.cfg sb
  let mag := magStage (reStage s.cfg xw) (imStage s.cfg xw)
  { s with
    xw := xw.map some
    re := (reStage s.cfg xw).map some
    im := (imStage s.cfg xw).map some
    mag := mag.map some
    band := (bandStage s.cfg mag).map some
    inten := (passIntensities s.cfg sb).map some
    seqPhase := .spmEmit 0 }

/-- Each stage is one step, and reads what the one before it wrote. -/
theorem PassRuns.runs_stages {s : State} {sb : List Q15} (h : PassRuns s) (phase : s.seqPhase = .spmWindow)
    (written : s.sb = sb.map some) (len : sb.length = s.cfg.l) : runSteps 5 s = .next (stagesDone sb s) := by
  have lenXw := windowStage_length h.spectral len
  have lenRe := reStage_length s.cfg (windowStage s.cfg sb)
  have lenIm := imStage_length s.cfg (windowStage s.cfg sb)
  have lenMag := magStage_length lenRe lenIm
  refine h.runSteps_succ (seqStep_of_window phase h.on h.spectral (readElems_of_map written len)) rfl fun h => ?_
  refine h.runSteps_succ (seqStep_of_dft rfl h.on h.spectral (readElems_of_map rfl lenXw)) rfl fun h => ?_
  refine h.runSteps_succ (seqStep_of_mag rfl h.on h.spectral (readElems_of_map rfl lenRe) (readElems_of_map rfl lenIm))
    rfl fun h => ?_
  refine h.runSteps_succ (seqStep_of_reduce rfl h.on h.spectral (readElems_of_map rfl lenMag)) rfl fun h => ?_
  refine h.runSteps_succ (seqStep_of_norm rfl h.on h.spectral (readElems_of_map rfl (bandStage_length _ _))) rfl fun _ => ?_
  simp only [runSteps_zero, stagesDone, passIntensities]

/-- The intensities still to emit go to the rest of the cells, an ACK each (R166). -/
theorem PassRuns.runs_cells {s : State} {b : Nat} {ys : List Byte} (h : PassRuns s) (phase : s.seqPhase = .spmEmit b)
    (frame : s.frame.length = s.cfg.n) (resp : s.spmResp = none) (left : s.inten.drop b = ys.map some)
    (enough : b + ys.length = s.cfg.n) : runSteps ys.length s = .next { s with
      frame := s.frame.take b ++ ys.map (specColor s.cfg.specMask)
      seqPhase := .spmEmit s.cfg.n
      respLog := s.respLog ++ List.replicate ys.length (.spm, ackWord)
      spmResp := none } := by
  induction ys generalizing s b with
  | nil =>
    obtain rfl : b = s.cfg.n := enough
    refine congrArg Host.Outcome.next ?_
    rw [List.take_of_length_le frame.le, List.map_nil, List.append_nil, List.length_nil, List.replicate_zero,
      List.append_nil, ← resp, ← phase]
  | cons v ys ih =>
    rw [List.length_cons] at enough ⊢
    have lt : b < s.cfg.n := by omega
    have read : s.inten[b]? = some (some v) := by
      have first := List.getElem?_drop (xs := s.inten) (i := b) (j := 0)
      rw [left] at first
      exact first.symm
    have next := h.seqStep_cell phase lt read
    have others : s.inten.drop (b + 1) = ys.map some := by
      rw [← List.tail_drop, left]
      rfl
    refine h.runSteps_succ next rfl fun runs =>
      (ih (b := b + 1) runs rfl (List.length_set.trans frame) rfl others (by rw [← enough]; omega)).trans ?_
    rw [take_succ_set_append _ _ (frame ▸ lt), List.map_cons, List.replicate_succ, List.append_assoc, List.singleton_append]

/-- After the last cell the frame is sent and the quantum ends (R166, R192). -/
theorem PassRuns.runs_end {s : State} (h : PassRuns s) (level : s.cfg.level = .operation) (phase : s.seqPhase = .spmEmit s.cfg.n)
    (resp : s.spmResp = none) : runSteps 2 s = .next (emitDone (frameSent s)) := by
  have ack : (frameSent s).spmResp = some ackWord := if_pos h.grant
  have update := (h.seqStep_update phase resp).trans (sendFrame_operation level)
  refine h.runSteps_succ update (by rw [h.free]; rfl) fun sent => ?_
  rw [Machine.runSteps_succ, sent.step_eq, sent.seqStep_end phase ack, thenNext_next, runSteps_zero]

/-- What the acquisition leaves (R145, R147). -/
def samplesTaken (x : List Q15) (s : State) : State := { s with sb := x.map some, sampleQ := [], seqPhase := .spmWindow }

/-- What the cells' commands leave (R166). -/
def cellsWritten (cells : List Color) (s : State) : State :=
  { s with
    frame := cells
    seqPhase := .spmEmit s.cfg.n
    respLog := s.respLog ++ List.replicate s.cfg.n (.spm, ackWord)
    spmResp := none }

/-- A pass with its samples delivered takes them and goes on to the window. -/
theorem PassRuns.runs_samples {s : State} {x : List Q15} (h : PassRuns s) (phase : s.seqPhase = .spmAcquire 0)
    (sb : s.sb.length = s.cfg.l) (queue : s.sampleQ = x) (len : x.length = s.cfg.l) :
    runSteps (s.cfg.l + 1) s = .next (samplesTaken x s) := by
  have taken := h.runs_acquire phase sb queue (by omega)
  rw [len] at taken
  have filled : PassRuns { s with sb := x.map some, sampleQ := [], seqPhase := .spmAcquire s.cfg.l } := h.of_kept rfl
  exact runSteps_trans taken (filled.runSteps_succ (seqStep_of_acquired rfl h.on h.spectral) rfl fun _ => rfl)

theorem passIntensities_length (c : Config) (x : List Q15) : (passIntensities c x).length = c.n :=
  normStage_length c (bandStage_length c _)

/-- The end of a pass over the samples `x` (R140, R192). -/
def passDone (x : List Q15) (s : State) : State :=
  emitDone (frameSent (cellsWritten (passColors s.cfg x) (stagesDone x (samplesTaken x s))))

/-- The whole pass, stage by stage (R140). -/
theorem Inv.runs_pass {s : State} {x : List Q15} (h : Inv s) (level : s.cfg.level = .operation) (script : s.script = [])
    (phase : s.seqPhase = .spmAcquire 0) (queue : s.sampleQ = x) (len : x.length = s.cfg.l) :
    runSteps (s.cfg.l + s.cfg.n + 8) s = .next (passDone x s) := by
  obtain ⟨grant, on, -⟩ := h.phaseOk_of_eq phase nofun
  have runs : PassRuns s := ⟨h.passActive (by simp [phase]) grant on, script⟩
  have samples := runs.runs_samples phase h.shape.sb queue len
  have afterSamples : PassRuns (samplesTaken x s) := runs.of_kept rfl
  have stages := afterSamples.runs_stages rfl rfl len
  have afterStages : PassRuns (stagesDone x (samplesTaken x s)) := runs.of_kept rfl
  have cells := afterStages.runs_cells (b := 0) (ys := passIntensities s.cfg x) rfl h.shape.frame
    (h.spmResp_eq_none (by simp [phase])) rfl ((Nat.zero_add _).trans (passIntensities_length s.cfg x))
  rw [passIntensities_length] at cells
  have afterCells : PassRuns (cellsWritten (passColors s.cfg x) (stagesDone x (samplesTaken x s))) := runs.of_kept rfl
  have finish := afterCells.runs_end level rfl rfl
  have steps : s.cfg.l + s.cfg.n + 8 = s.cfg.l + 1 + (5 + (s.cfg.n + 2)) := by omega
  rw [steps]
  exact runSteps_trans samples (runSteps_trans stages (runSteps_trans cells finish))

/-- Settles O50: the state at the end of the pass has the fields stated. -/
theorem spectralPassEndToEnd : Obligations.SpectralPassEndToEnd := by
  intro s x h level script phase queue len
  obtain ⟨grant, -⟩ := h.phaseOk_of_eq phase nofun
  refine ⟨_, h.runs_pass level script phase queue len,
    rfl, rfl, rfl, rfl, rfl, rfl, rfl, rfl, rfl, rfl, rfl, rfl, rfl, rfl, rfl, rfl, ?_⟩
  show s.respLog ++ List.replicate s.cfg.n (Grant.spm, ackWord) ++ [(s.grant, ackWord)] = _
  rw [grant, List.append_assoc, ← List.replicate_succ', ackWord_eq]

/-! ### Silence (R163, R168) -/

theorem windowed_zero (w : Q15) : windowed 0#16 w = 0#16 := by
  rw [windowed, BitVec.toInt_zero, zero_mul]
  rfl

theorem windowStage_silent {c : Config} (ok : c.spectralOk = true) :
    windowStage c (List.replicate c.l 0#16) = List.replicate c.l 0#16 := by
  refine List.eq_replicate_iff.mpr ⟨windowStage_length ok List.length_replicate, fun v mem => ?_⟩
  obtain ⟨n, lt, rfl⟩ := List.getElem_of_mem mem
  simp only [windowStage, List.getElem_zipWith, List.getElem_replicate, windowed_zero]

theorem correlate_silent (t : List Q15) (l k n : Nat) : correlate t l k (List.replicate n 0#16) = 0 := by
  rw [correlate_eq_sum]
  exact Finset.sum_eq_zero fun i _ => by simp

theorem reStage_silent (c : Config) (n : Nat) : reStage c (List.replicate n 0#16) = List.replicate (c.l / 2 + 1) 0#64 := by
  simp [reStage, dftRe, correlate_silent]

theorem imStage_silent (c : Config) (n : Nat) : imStage c (List.replicate n 0#16) = List.replicate (c.l / 2 + 1) 0#64 := by
  simp [imStage, dftIm, correlate_silent]

theorem magStage_silent (n : Nat) : magStage (List.replicate n 0#64) (List.replicate n 0#64) = List.replicate n 0#64 := by
  have zero : magnitude 0 0 = 0 := by decide
  simp [magStage, zero]

theorem reduceBand_eq_zero {r : Reduce} {xs : List Nat} (silent : ∀ x ∈ xs, x = 0) : reduceBand r xs = 0 := by
  cases r with
  | peak => exact (reduceBand_peak_spec xs).2.elim id (silent _)
  | sum => exact List.sum_eq_zero silent

theorem bandStage_silent (c : Config) (n : Nat) : bandStage c (List.replicate n 0#64) = List.replicate c.n 0#64 := by
  have silent : ∀ b, reduceBand c.reduce (bandBins c (List.replicate n 0#64) b) = 0 := by
    refine fun b => reduceBand_eq_zero fun v mem => ?_
    obtain ⟨k, m, bin, -, rfl⟩ := mem_bandBins_iff.mp mem
    rw [List.eq_of_mem_replicate (List.mem_of_getElem? bin)]
    rfl
  simp [bandStage, silent]

theorem normStage_silent (c : Config) (n : Nat) : normStage c (List.replicate n 0#64) = List.replicate n 0#8 := by
  simp [normStage, normalised_zero]

/-- Silent samples give black cells: every stage maps zeros to zeros. -/
theorem passColors_silent {c : Config} (ok : c.spectralOk = true) :
    passColors c (List.replicate c.l 0#16) = List.replicate c.n Color.black := by
  have dark : specColor c.specMask 0#8 = Color.black := by simp [specColor, Color.black]
  rw [passColors, passIntensities, windowStage_silent ok, reStage_silent, imStage_silent, magStage_silent, bandStage_silent,
    normStage_silent, List.map_replicate, dark]

/-- Settles O51: the pass of O50 with black cells, whose bits are all 0. -/
theorem silenceTurnsAllOff : Obligations.SilenceTurnsAllOff := by
  intro s h level script phase queue
  obtain ⟨-, on, -⟩ := h.phaseOk_of_eq phase nofun
  have black := passColors_silent (h.specOk ▸ on : s.cfg.spectralOk = true)
  obtain ⟨t, run, -, -, frame, log, -⟩ := spectralPassEndToEnd s _ h level script phase queue List.length_replicate
  rw [black] at frame log
  exact ⟨t, run, frame, log.trans (by rw [frameBits_black])⟩

end Sys2Proof.Machine
end

section
/-! PROOFS. The arbiter (43_mode_scheduler.md R182 to R186, R195): a sample of the input and the falling edge, what a step of ARB leaves
unchanged, and that MODE counts the falling edges, of EDGE_FALL alone and of every script of events. -/

namespace Sys2Proof.Machine

/-! ### One falling edge, one sample (R182 to R186) -/

/-- EDGE_FALL writes MODE alone (R183). -/
theorem exec_edgeFall (s : State) : exec .edgeFall s = .next { s with mode := nextMode s } := rfl

/-- Settles O30: MODE's new value is `nextMode`, which no width truncates in a conforming configuration. -/
theorem edgeFallIncrementsMode : Obligations.EdgeFallIncrementsMode :=
  fun s conf => ⟨rfl, _, exec_edgeFall s, rfl, nextMode_toNat conf⟩

/-- A step whose event is a sample is ARB's (R182 to R184). -/
theorem step_of_pin {s : State} {level : Bool} {rest : List Event} (conf : s.cfg.conforming = true)
    (script : s.script = .pin level :: rest) :
    step s = .next
      (if s.btnSync = true ∧ level = false then { samplePin level { s with script := rest } with mode := nextMode s }
        else samplePin level { s with script := rest }) :=
  (step_of_script conf script).trans (arbStep_eq level _)

/-- Settles O8, by whether the pair is a falling edge. -/
theorem stepRunsEdgePair : Obligations.StepRunsEdgePair := by
  intro s level rest conf script
  rw [step_of_pin conf script]
  exact ⟨fun fall => by rw [if_pos fall]; rfl, fun noFall => by rw [if_neg noFall]; rfl⟩

/-- Settles O33, by whether the pair is a falling edge. -/
theorem arbTouchesOnlyModeAndButton : Obligations.ArbTouchesOnlyModeAndButton := by
  intro s t level rest script run
  rw [step_of_pin (conforming_of_step run) script] at run
  cases run
  split <;> rfl

/-! ### Falling edges alone (R195) -/

/-- From any MODE in range, `k` falling edges add `k` modulo NUM_MODES. -/
theorem edgeFalls_mode {s : State} (k : Nat) (conf : s.cfg.conforming = true) (range : s.mode.toNat < s.cfg.numModes) :
    ∃ t, edgeFalls k s = .next t ∧ t = { s with mode := t.mode } ∧
      t.mode.toNat = (s.mode.toNat + k) % s.cfg.numModes := by
  induction k generalizing s with
  | zero => exact ⟨s, rfl, rfl, (Nat.mod_eq_of_lt range).symm⟩
  | succ k ih =>
    have first : (nextMode s).toNat = (s.mode.toNat + 1) % s.cfg.numModes := nextMode_toNat conf
    have inRange : (nextMode s).toNat < s.cfg.numModes := first ▸ Nat.mod_lt _ (by omega)
    obtain ⟨t, run, frame, mode⟩ := ih (s := { s with mode := nextMode s }) conf inRange
    refine ⟨t, run, frame, ?_⟩
    calc t.mode.toNat
      _ = ((nextMode s).toNat + k) % s.cfg.numModes := mode
      _ = (s.mode.toNat + (k + 1)) % s.cfg.numModes := by rw [first, Nat.mod_add_mod, Nat.add_right_comm, Nat.add_assoc]

/-- Settles O31: `edgeFalls_mode` from MODE = 0. -/
theorem edgeCountLaw : Obligations.EdgeCountLaw := by
  intro s k conf zero
  have bounds := conforming_bounds conf
  have start : s.mode.toNat = 0 := by rw [zero]; rfl
  simpa [start] using edgeFalls_mode k conf (by omega)

/-! ### What a cycle of the serializer leaves unchanged (R119, R120) -/

/-- A cycle of the HIGH part of a bit writes the serializer's registers and the line alone (R119). -/
theorem highCycle_frame (v : Bool) (s : State) : highCycle v s = { s with
    serCnt := (highCycle v s).serCnt, serWraps := (highCycle v s).serWraps, serSub := (highCycle v s).serSub
    linkOut := (highCycle v s).linkOut } := by
  rw [highCycle_eq]
  split <;> rfl

/-- A cycle of the LOW part of a bit writes the serializer's registers, the line and the phase alone (R119, R120). -/
theorem lowCycle_frame (v : Bool) (s : State) : lowCycle v s = { s with
    serCnt := (lowCycle v s).serCnt, serWraps := (lowCycle v s).serWraps, serSub := (lowCycle v s).serSub
    linkOut := (lowCycle v s).linkOut, serPos := (lowCycle v s).serPos, seqPhase := (lowCycle v s).seqPhase } := by
  unfold lowCycle
  split
  · rfl
  · split <;> rfl

/-! ### Falling edges in a script (R195, R229) -/

/-- No event changes what is left of the script (R63). -/
theorem eventStep_script {e : Event} {s t : State} (run : eventStep e s = .next t) : t.script = s.script := by
  cases e with
  | pin level =>
    rw [eventStep, arbStep_eq] at run
    cases run
    split <;> rfl
  | seq =>
    obtain ⟨-, -, -, -, -, script⟩ := (seqStep_move run).fixed
    exact script
  | sample v =>
    cases run
    simp
  | present m msg =>
    cases run
    rfl
  | reset level =>
    cases run
    rfl

/-- SEQ adds no message to the workers' queue (R70). -/
theorem SeqMove.workerQ_subset {s t : State} (move : SeqMove s t) : t.workerQ ⊆ s.workerQ := by
  have taken : ∀ {m x q}, takeMessage m s.workerQ = some (x, q) → q ⊆ s.workerQ := by
    intro m x q msg
    obtain ⟨pre, post, queue, rfl, -⟩ := takeMessage_eq_some_iff.mp msg
    rw [queue]
    exact List.append_subset.mpr ⟨by simp, by simp⟩
  cases move with
  | flush _ _ _ _ _ _ _ send =>
    rcases sendFrame_cases s with ⟨-, e⟩ | ⟨-, e⟩ <;> cases e.symm.trans send <;> exact List.Subset.refl _
  | command m w q _ _ _ _ msg _ run =>
    have queue : t.workerQ = q := congrArg State.workerQ (exec_decodeCmd_frame run)
    exact queue ▸ taken msg
  | done m q _ _ _ msg => exact taken msg
  | high k v => rw [highCycle_frame]; exact List.Subset.refl _
  | low k v => rw [lowCycle_frame]; exact List.Subset.refl _
  | _ => simp

/-- A message waits after an event only if it waited before, or was presented by it (R191). -/
theorem eventStep_workerQ {e : Event} {s t : State} (run : eventStep e s = .next t) {m : U32} {msg : WorkerMsg}
    (waits : (m, msg) ∈ t.workerQ) : (m, msg) ∈ s.workerQ ∨ e = .present m msg := by
  cases e with
  | pin level =>
    rw [eventStep, arbStep_eq] at run
    cases run
    exact .inl (by split at waits <;> exact waits)
  | seq => exact .inl ((seqStep_move run).workerQ_subset waits)
  | sample v =>
    cases run
    exact .inl (by simpa using waits)
  | present m' msg' =>
    cases run
    simpa [or_comm, eq_comm] using waits
  | reset level =>
    cases run
    exact nomatch waits

theorem noReset_cons {e : Event} {es : List Event} (h : noReset (e :: es) = true) :
    (∀ level, e ≠ .reset level) ∧ noReset es = true := by
  rw [noReset, List.all_cons, Bool.and_eq_true] at h
  obtain ⟨head, tail⟩ := h
  refine ⟨?_, tail⟩
  rintro level rfl
  cases head

/-- Settles O32, by induction on the script: each event keeps the sum of MODE and the falling edges to come, and a run that
stops does so at a word that waited at its last step, hence was presented by an event before it or waited from the start. -/
theorem everyFallingEdgeCounts : Obligations.EveryFallingEdgeCounts := by
  intro s h noResets
  generalize events : s.script = es at noResets ⊢
  induction es generalizing s with
  | nil => exact .inl ⟨s, rfl, events, (Nat.mod_eq_of_lt h.mode).symm⟩
  | cons e es ih =>
    obtain ⟨noReset, noResets⟩ := noReset_cons noResets
    rw [List.length_cons, runSteps_succ]
    rcases invStopsOnlyOnRefusedCommand s h with ⟨t, run⟩ | ⟨refuse, -, -, m, w, q, -, msg, refused, stop⟩
    · have event := run
      rw [step_of_script h.conforming events] at event
      have cfg := configurationNeverChanges s t run
      rw [run, thenNext_next]
      rcases ih t (stepKeepsInv s t h run) (eventStep_script event) noResets with ⟨u, rest, done, mode⟩ |
        ⟨refuse, m, w, stop, refused, origin⟩
      · refine .inl ⟨u, rest, done, ?_⟩
        rw [mode, cfg]
        exact step_keeps_edge_sum events run noReset es
      · refine .inr ⟨cfg ▸ refuse, m, w, stop, refused, ?_⟩
        rcases origin with waits | later
        · exact (eventStep_workerQ event waits).imp_right (by rintro rfl; exact List.mem_cons_self)
        · exact .inr (List.mem_cons_of_mem e later)
    · obtain ⟨pre, post, queue, -⟩ := takeMessage_eq_some_iff.mp msg
      exact .inr ⟨refuse, m, w, by rw [stop, thenNext_refused], refused, .inl (by simp [queue])⟩

end Sys2Proof.Machine
end

section
/-! PROOFS. The scheduler's quanta (43_mode_scheduler.md R187 to R193, R198): a boundary latches MODE and dispatches it, what each
dispatch row starts, and what ends an external quantum. -/

namespace Sys2Proof.Machine

/-! ### The dispatch rows (R189, R190, R198) -/

/-- Settles O37, row by row: each runs `startExternal` with its mode. -/
theorem externalDispatchStartsWorker : Obligations.ExternalDispatchStartsWorker := by
  rintro s i m (⟨rfl, rfl⟩ | ⟨rfl, rfl⟩ | ⟨rfl, rfl⟩ | rfl) <;> rfl

/-- Settles O38, by SPEC_OK. -/
theorem spectralDispatch : Obligations.SpectralDispatch :=
  fun _ => ⟨fun on => if_pos on, fun off => if_neg (by simp [off])⟩

/-! ### The boundary (R187, R188) -/

/-- On SEQ's turn at a boundary a step is the boundary's, from the state after the turn. -/
theorem step_of_boundary {s s' : State} (conf : s.cfg.conforming = true) (turn : seqTurn s = some s')
    (phase : s.seqPhase = .boundary) : step s = boundaryStep s' := by
  rw [step_of_conforming conf, nextEvent_of_seqTurn turn]
  exact seqStep_of_boundary ((seqTurn_field State.seqPhase (fun _ _ => rfl) turn).trans phase)

/-- Settles O9: the boundary decodes the MODE it latches. -/
theorem stepDispatchesLatchedMode : Obligations.StepDispatchesLatchedMode := by
  intro s s' conf turn phase
  refine ⟨_, rfl, ?_⟩
  rw [step_of_boundary conf turn phase, seqTurn_eq turn]
  rfl

/-- Settles O39: a mode past the last decodes to Unreachable, and the invariant, which holds MODE in range, leaves a word refused as
the only stop of a step. -/
theorem unreachableModeFaults : Obligations.UnreachableModeFaults := by
  refine ⟨fun _ _ => rfl, fun s s' conf turn phase past => ?_, fun s m h stop => ?_⟩
  · rw [step_of_boundary conf turn phase, boundaryStep, seqTurn_eq turn]
    change exec (decodeDispatch s.cfg.numModes s.mode) _ = _
    rw [decodeDispatch_unreachable past]
    rfl
  · rcases invStopsOnlyOnRefusedCommand s h with ⟨t, run⟩ | ⟨-, -, -, _, _, _, -, -, -, refused⟩
    · exact nomatch stop.symm.trans run
    · exact nomatch stop.symm.trans refused

/-- SEQ latches MODE at a boundary, and leaves CUR_MODE alone elsewhere (R187, R193). -/
theorem SeqMove.curMode_cases {s t : State} (move : SeqMove s t) :
    t.curMode = s.curMode ∨ (s.seqPhase = .boundary ∧ t.curMode = s.mode) := by
  cases move with
  | external phase => exact .inr ⟨phase, rfl⟩
  | pass phase => exact .inr ⟨phase, rfl⟩
  | skip phase => exact .inr ⟨phase, rfl⟩
  | flush _ _ _ _ _ _ _ send =>
    rcases sendFrame_cases s with ⟨-, e⟩ | ⟨-, e⟩ <;> cases e.symm.trans send <;> exact .inl rfl
  | command _ _ _ _ _ _ _ _ _ run => exact .inl ((congrArg State.curMode (exec_decodeCmd_frame run)).trans rfl)
  | high k v => exact .inl (by rw [highCycle_frame])
  | low k v => exact .inl (by rw [lowCycle_frame])
  | _ => exact .inl (by simp)

/-- Settles O35, by the kind of the step: among the steps of SEQ by `SeqMove.curMode_cases`, and no other event but the reset input
touches CUR_MODE. -/
theorem curModeLatchedOnlyAtBoundary : Obligations.CurModeLatchedOnlyAtBoundary := by
  intro s t run noReset
  rcases step_cases run with ⟨s', turn, move⟩ | ⟨level, rest, -, rfl⟩ | ⟨v, rest, -, rfl⟩ | ⟨m, msg, rest, -, rfl⟩ |
    ⟨level, rest, reset, -⟩
  · have isTurn : (seqTurn s).isSome = true := by rw [turn]; rfl
    rw [seqTurn_eq turn] at move
    have move := seqStep_move move
    obtain ⟨-, mode, -⟩ := move.fixed
    exact move.curMode_cases.imp_right fun ⟨phase, latched⟩ => ⟨phase, isTurn, latched, mode⟩
  · exact .inl (by split <;> rfl)
  · exact .inl (by simp)
  · exact .inl rfl
  · exact absurd reset (noReset level rest)

/-! ### The end of an external quantum (R190, R192) -/

/-- SEQ in EXT_RUN ends the quantum on the DONE of the worker that holds the free port. -/
theorem extRunStep_eq_quantumEnd {s : State} {m : U32} {q : List (U32 × WorkerMsg)} (grant : s.grant = .ext m)
    (free : s.busy = false) (oldest : takeMessage m s.workerQ = some (.done, q)) :
    extRunStep s = .next (quantumEnd { s with workerQ := q }) := by
  have worker : extRunStep s = extRunWith m s := by rw [extRunStep, grant]
  rw [worker, extRunWith, if_pos (portAccepts_iff.mpr ⟨grant, rfl, free⟩), oldest]

/-- Settles O40: `takeMessage` finds the DONE, with which the quantum ends. -/
theorem doneEndsQuantum : Obligations.DoneEndsQuantum := by
  intro s s' m pre post conf turn phase grant free queue older
  have script := seqTurn_eq turn
  have oldest : takeMessage m s'.workerQ = some (.done, pre ++ post) :=
    takeMessage_eq_some_iff.mpr ⟨pre, post, by rw [script]; exact queue, rfl, older⟩
  rw [step_of_conforming conf, nextEvent_of_seqTurn turn, seqStep_of_extRun (by rw [script]; exact phase),
    extRunStep_eq_quantumEnd (by rw [script]; exact grant) (by rw [script]; exact free) oldest]
  rfl

end Sys2Proof.Machine
end

section
/-! PROOFS. A mode change does not disturb a pass or a frame (43_mode_scheduler.md R193): no step of SEQ between a boundary and the
quantum end reads MODE, but for a worker's READREG. -/

namespace Sys2Proof.Machine

/-- `s` with another value in MODE. -/
def withMode (m : U32) (s : State) : State := { s with mode := m }

/-- `k` neither reads MODE nor writes it: with another value in MODE it answers the same, that value apart. -/
def ModeBlind (k : State → Result) : Prop :=
  ∀ m s, k (withMode m s) = thenNext (k s) fun t => .next (withMode m t)

@[simp] theorem withMode_cfg (m : U32) (s : State) : (withMode m s).cfg = s.cfg := rfl
@[simp] theorem withMode_specOk (m : U32) (s : State) : (withMode m s).specOk = s.specOk := rfl
@[simp] theorem withMode_seqPhase (m : U32) (s : State) : (withMode m s).seqPhase = s.seqPhase := rfl
@[simp] theorem withMode_sampleQ (m : U32) (s : State) : (withMode m s).sampleQ = s.sampleQ := rfl
@[simp] theorem withMode_spmResp (m : U32) (s : State) : (withMode m s).spmResp = s.spmResp := rfl
@[simp] theorem withMode_inten (m : U32) (s : State) : (withMode m s).inten = s.inten := rfl

@[simp] theorem quantumEnd_withMode (m : U32) (s : State) : quantumEnd (withMode m s) = withMode m (quantumEnd s) := rfl
@[simp] theorem emitDone_withMode (m : U32) (s : State) : emitDone (withMode m s) = withMode m (emitDone s) := rfl

/-! ### The gate and the array reads (R141, R48) -/

theorem ModeBlind.withSpectral {k : State → Result} (h : ModeBlind k) : ModeBlind fun s => withSpectral s k := by
  intro m s
  cases on : s.specOk with
  | false => simp [Machine.withSpectral, on]
  | true =>
    cases ok : s.cfg.spectralOk with
    | false => simp [Machine.withSpectral, on, ok]
    | true => simp [Machine.withSpectral, on, ok, h m s]

theorem thenNext_withElems {α : Type} (a : SpmArray) (n : Nat) (xs : List (Option α)) (k : List α → Result)
    (f : State → Result) : thenNext (withElems a n xs k) f = withElems a n xs fun ys => thenNext (k ys) f := by
  unfold withElems
  split <;> rfl

theorem thenNext_withElem {α : Type} (a : SpmArray) (i : Nat) (xs : List (Option α)) (k : α → Result)
    (f : State → Result) : thenNext (withElem a i xs k) f = withElem a i xs fun x => thenNext (k x) f := by
  unfold withElem
  split <;> rfl

/-! ### The stages of a pass (R145 to R166) -/

theorem modeBlind_acquireStep (j : Nat) : ModeBlind (acquireStep j) := by
  intro m s
  by_cases more : j < s.cfg.l
  · cases queue : s.sampleQ with
    | nil => simp [acquireStep, more, queue]
    | cons v rest =>
      simp only [acquireStep, withMode_cfg, withMode_sampleQ, more, queue, if_true, thenNext_next]
      rfl
  · simp only [acquireStep, withMode_cfg, more, if_false, thenNext_next]
    rfl

theorem modeBlind_windowStep : ModeBlind windowStep := fun m s => by
  simp only [windowStep, thenNext_withElems]
  rfl

theorem modeBlind_dftStep : ModeBlind dftStep := fun m s => by
  simp only [dftStep, thenNext_withElems]
  rfl

theorem modeBlind_magStep : ModeBlind magStep := fun m s => by
  simp only [magStep, thenNext_withElems]
  rfl

theorem modeBlind_reduceStep : ModeBlind reduceStep := fun m s => by
  simp only [reduceStep, thenNext_withElems]
  rfl

theorem modeBlind_normStep : ModeBlind normStep := fun m s => by
  simp only [normStep, thenNext_withElems]
  rfl

theorem writeCell_withMode (m : U32) (s : State) (idx : U32) (c : Color) :
    writeCell (withMode m s) idx c = withMode m (writeCell s idx c) := by
  by_cases range : idxInRange s idx
  · rw [writeCell_of_inRange c range, writeCell_of_inRange (s := withMode m s) c range]
    rfl
  · rw [writeCell_of_not_inRange c range, writeCell_of_not_inRange (s := withMode m s) c range]

theorem modeBlind_sendFrame : ModeBlind sendFrame := by
  intro m s
  rcases sendFrame_cases s with ⟨level, e⟩ | ⟨level, e⟩ <;> rw [e]
  · exact sendFrame_operation level
  · exact sendFrame_timing level

theorem modeBlind_emitStep (b : Nat) : ModeBlind (emitStep b) := by
  intro m s
  have port : portAccepts .spm true (withMode m s) = portAccepts .spm true s := rfl
  cases accepts : portAccepts .spm true s with
  | false => simp [emitStep, port, accepts]
  | true =>
    by_cases cell : b < s.cfg.n
    · simp only [emitStep, port, accepts, withMode_cfg, withMode_inten, cell, if_true, thenNext_withElem,
        takeCommand_setcolorWord, writeCell_withMode]
      rfl
    · cases resp : s.spmResp with
      | none => simp [emitStep, port, accepts, cell, resp, takeCommand_updateWord, modeBlind_sendFrame m s]
      | some w => simp [emitStep, port, accepts, cell, resp]

/-! ### The serializer (R119 to R121) -/

theorem highCycle_withMode (m : U32) (v : Bool) (s : State) : highCycle v (withMode m s) = withMode m (highCycle v s) := by
  rw [highCycle_eq, highCycle_eq, apply_ite (withMode m)]
  rfl

theorem beginBit_withMode (m : U32) (j : Nat) (s : State) : beginBit j (withMode m s) = withMode m (beginBit j s) := by
  rw [beginBit, beginBit, apply_ite (withMode m)]
  rfl

theorem lowCycle_withMode (m : U32) (v : Bool) (s : State) : lowCycle v (withMode m s) = withMode m (lowCycle v s) := by
  rw [lowCycle_eq, lowCycle_eq, apply_ite (withMode m), ← beginBit_withMode]
  rfl

theorem gapCycle_withMode (m : U32) (s : State) : gapCycle (withMode m s) = withMode m (gapCycle s) := by
  rw [gapCycle, gapCycle, apply_ite (withMode m)]
  rfl

/-- With no bit left in the HIGH or LOW part the latch gap begins (R115, R120). -/
theorem serCycle_of_sent {s : State} (sub : s.serSub ≠ .gap) (bit : s.serBits[s.serPos]? = none) : serCycle s = startGap s := by
  unfold serCycle
  split
  · simp_all
  · simp_all
  · exact absurd ‹_› sub
  · rfl
  · rfl

theorem serCycle_withMode (m : U32) (s : State) : serCycle (withMode m s) = withMode m (serCycle s) := by
  by_cases gap : s.serSub = .gap
  · rw [serCycle_of_gap gap, serCycle_of_gap (s := withMode m s) gap, gapCycle_withMode]
  cases bit : s.serBits[s.serPos]? with
  | none =>
    rw [serCycle_of_sent gap bit, serCycle_of_sent (s := withMode m s) gap bit]
    rfl
  | some v =>
    cases sub : s.serSub with
    | high => rw [serCycle_of_high sub bit, serCycle_of_high (s := withMode m s) sub bit, highCycle_withMode]
    | low => rw [serCycle_of_low sub bit, serCycle_of_low (s := withMode m s) sub bit, lowCycle_withMode]
    | gap => exact absurd sub gap

/-! ### Every phase of a pass or a frame -/

/-- Away from a boundary and from EXT_RUN, SEQ's step neither reads MODE nor writes it (R193). -/
theorem seqStep_withMode {s : State} (m : U32) (notBoundary : s.seqPhase ≠ .boundary) (notExt : s.seqPhase ≠ .extRun) :
    seqStep (withMode m s) = thenNext (seqStep s) fun t => .next (withMode m t) := by
  unfold seqStep
  rw [withMode_seqPhase]
  cases phase : s.seqPhase with
  | boundary => exact absurd phase notBoundary
  | spmAcquire j => exact (modeBlind_acquireStep j).withSpectral m s
  | spmWindow => exact modeBlind_windowStep.withSpectral m s
  | spmDft => exact modeBlind_dftStep.withSpectral m s
  | spmMag => exact modeBlind_magStep.withSpectral m s
  | spmReduce => exact modeBlind_reduceStep.withSpectral m s
  | spmNorm => exact modeBlind_normStep.withSpectral m s
  | spmEmit b => exact (modeBlind_emitStep b).withSpectral m s
  | extRun => exact absurd phase notExt
  | ser k => exact congrArg Host.Outcome.next (serCycle_withMode m s)

/-- Settles O36: each stage of a pass is blind to MODE, and so is a cycle of the serializer. -/
theorem modeChangeDoesNotDisturbPass : Obligations.ModeChangeDoesNotDisturbPass := by
  intro s m notBoundary notExt
  have same := seqStep_withMode m notBoundary notExt
  exact ⟨fun t run => by rw [run] at same; exact same, fun r stop => by rw [stop] at same; exact same⟩

end Sys2Proof.Machine
end

section
/-! PROOFS. Exceptions (60_exceptions.md R210, R213, R214, R228): what SEQ takes from the workers and what it records of it, and where
it waits. -/

namespace Sys2Proof.Machine

/-! ### The record of refusals (R210, R213) -/

/-- The record of refusals has only grown, by words the model's check refuses, and by none in the spec's own model. -/
def RefusalsGrow (s t : State) : Prop :=
  ∃ ws, t.refusals = s.refusals ++ ws ∧ (∀ w ∈ ws, (decodeCmd w).refusedByModel = true) ∧ (s.cfg.check = .refuse → ws = [])

theorem refusalsGrow_of_eq {s t : State} (kept : t.refusals = s.refusals) : RefusalsGrow s t :=
  ⟨[], by simp [kept], nofun, fun _ => rfl⟩

/-- A word accepted is recorded just when the model's check refuses it, which takes R210's hardware column. -/
theorem refusalsGrow_noteRefusal {s : State} {w : U64}
    (accepted : s.cfg.check = .hardware ∨ (decodeCmd w).refusedByModel = false) : RefusalsGrow s (noteRefusal w s) := by
  cases refused : (decodeCmd w).refusedByModel with
  | false => exact refusalsGrow_of_eq (by simp [refused])
  | true =>
    have hardware : s.cfg.check = .hardware := accepted.resolve_right (by simp [refused])
    exact ⟨[w], by simp [refused], by simpa using refused, fun refuse => nomatch hardware.symm.trans refuse⟩

/-! ### What a move of SEQ takes from the workers (R100, R191, R214) -/

/-- SEQ leaves the workers' messages and the record of refusals alone, but in EXT_RUN with the port free, where it takes the oldest
message of the worker that holds the grant. -/
theorem SeqMove.port_cases {s t : State} (move : SeqMove s t) : (t.workerQ = s.workerQ ∧ t.refusals = s.refusals) ∨
    (s.seqPhase = .extRun ∧ s.busy = false ∧ ∃ m x, s.grant = .ext m ∧ takeMessage m s.workerQ = some (x, t.workerQ) ∧
      RefusalsGrow s t) := by
  cases move with
  | flush _ _ _ _ _ _ _ send =>
    rcases sendFrame_cases s with ⟨-, e⟩ | ⟨-, e⟩ <;> cases e.symm.trans send <;> exact .inl ⟨rfl, rfl⟩
  | command m w q _ phase grant free msg accepted run =>
    have frame := exec_decodeCmd_frame run
    have queue : t.workerQ = q := congrArg State.workerQ frame
    have record : t.refusals = (noteRefusal w s).refusals := (congrArg State.refusals frame).trans rfl
    refine .inr ⟨phase, free, m, .cmd w, grant, queue ▸ msg, ?_⟩
    rw [RefusalsGrow, record]
    exact refusalsGrow_noteRefusal accepted
  | done m q phase grant free msg => exact .inr ⟨phase, free, m, .done, grant, msg, refusalsGrow_of_eq rfl⟩
  | high k v => exact .inl (by rw [highCycle_frame]; exact ⟨rfl, rfl⟩)
  | low k v => exact .inl (by rw [lowCycle_frame]; exact ⟨rfl, rfl⟩)
  | _ => exact .inl (by simp)

/-- Settles O13, by the kind of the step: SEQ records a word only as it takes it, and no other event touches the record. -/
theorem refusalsAreKept : Obligations.RefusalsAreKept := by
  intro s t run
  change RefusalsGrow s t
  rcases step_cases run with ⟨s', turn, move⟩ | ⟨level, rest, -, rfl⟩ | ⟨v, rest, -, rfl⟩ | ⟨m, msg, rest, -, rfl⟩ |
    ⟨level, rest, -, rfl⟩
  · rw [seqTurn_eq turn] at move
    rcases (seqStep_move move).port_cases with ⟨-, kept⟩ | ⟨-, -, m, x, -, -, grows⟩
    · exact refusalsGrow_of_eq kept
    · exact grows
  · exact refusalsGrow_of_eq (by split <;> rfl)
  · exact refusalsGrow_of_eq (by simp)
  · exact refusalsGrow_of_eq rfl
  · exact refusalsGrow_of_eq rfl

/-- Settles O11, by the kind of the step: SEQ takes a message of the worker that holds the free port alone, and only a message
presented joins the queue. -/
theorem commandHeldOutsideGrant : Obligations.CommandHeldOutsideGrant := by
  intro s t m run noReset outside
  rcases step_cases run with ⟨s', turn, move⟩ | ⟨level, rest, -, rfl⟩ | ⟨v, rest, -, rfl⟩ | ⟨m', msg, rest, present, rfl⟩ |
    ⟨level, rest, reset, -⟩
  · have isTurn : (seqTurn s).isSome = true := by rw [turn]; rfl
    rw [seqTurn_eq turn] at move
    refine ⟨[], ?_, nofun⟩
    rw [List.append_nil]
    rcases (seqStep_move move).port_cases with ⟨kept, -⟩ | ⟨phase, free, m', x, grant, taken, -⟩
    · rw [kept]
    · have other : m ≠ m' := by
        rintro rfl
        exact outside ⟨grant, phase, free, isTurn⟩
      exact takeMessage_filter taken other
  · exact ⟨[], by split <;> simp, nofun⟩
  · exact ⟨[], by simp, nofun⟩
  · refine ⟨[(m', msg)].filter (fun p => p.1 = m), List.filter_append .., fun x added => ⟨rest, ?_⟩⟩
    obtain ⟨new, worker⟩ := List.mem_filter.mp added
    obtain rfl := List.mem_singleton.mp new
    obtain rfl : m' = m := of_decide_eq_true worker
    exact present
  · exact absurd reset (noReset level rest)

/-! ### Steps of SEQ that change something (R228) -/

/-- A step into another phase changes the state. -/
theorem next_ne_of_phase {s t : State} (moved : t.seqPhase ≠ s.seqPhase) : (.next t : Result) ≠ .next s := by
  rintro ⟨⟩
  exact moved rfl

/-- An answer is a change: the log of responses has grown (R87). -/
theorem respond_ne_of_respLog {s u : State} (w : U64) (log : u.respLog = s.respLog) : respond w u ≠ s := by
  intro same
  have grown := congrArg State.respLog same
  simp [log] at grown

/-- Away from a boundary the gate of R141 is no wait: it ends the quantum. -/
theorem withSpectral_self {s : State} {k : State → Result} (notBoundary : s.seqPhase ≠ .boundary)
    (waits : withSpectral s k = .next s) : k s = .next s := by
  rcases withSpectral_eq_next waits with ⟨-, same⟩ | ⟨-, -, run⟩
  · exact absurd (congrArg State.seqPhase same) notBoundary
  · exact run

/-- A stage that reads an array changes the state if it does so whatever elements it reads: an element not written is a fault (R48). -/
theorem withElems_ne_next {α : Type} {a : SpmArray} {n : Nat} {xs : List (Option α)} {k : List α → Result} {s : State}
    (moves : ∀ ys, k ys ≠ .next s) : withElems a n xs k ≠ .next s := by
  intro waits
  obtain ⟨ys, -, run⟩ := withElems_eq_next waits
  exact moves ys run

/-- UPDATE's body adds a response, or enters the serializer's phases (R102). -/
theorem sendFrame_ne_self {s : State} (notSer : ∀ k, s.seqPhase ≠ .ser k) : sendFrame s ≠ .next s := by
  rcases sendFrame_cases s with ⟨-, e⟩ | ⟨-, e⟩ <;> rw [e]
  · exact fun same => respond_ne_of_respLog ackWord (by rfl) (Host.Outcome.next.inj same)
  · exact next_ne_of_phase (notSer 0).symm

/-- Emit never waits while SPM holds the free port (R166): it goes to the next cell, sends the frame, or ends the quantum. -/
theorem emitStep_ne_self {s : State} {b : Nat} (phase : s.seqPhase = .spmEmit b) (grant : s.grant = .spm)
    (free : s.busy = false) : emitStep b s ≠ .next s := by
  intro waits
  rw [emitStep, if_pos (portAccepts_iff.mpr ⟨grant, rfl, free⟩)] at waits
  split at waits
  · obtain ⟨v, -, run⟩ := withElem_eq_next waits
    rw [takeCommand_setcolorWord, thenNext_next, emitNext] at run
    exact next_ne_of_phase (by simp [phase]) run
  · split at waits
    · rw [takeCommand_updateWord] at waits
      exact sendFrame_ne_self (by simp [phase]) waits
    · exact next_ne_of_phase (by simp [phase]) waits

/-- SER_POS names the bit that begins, or the end of the bits (R115). -/
theorem beginBit_serPos (j : Nat) (s : State) : (beginBit j s).serPos = j := by
  unfold beginBit
  split <;> rfl

/-- A cycle of the serializer counts, begins another part of the frame, or answers (R119 to R121). -/
theorem serCycle_ne_self (s : State) : serCycle s ≠ s := by
  have ticks : serTick s ≠ s := fun same => by
    have counted := congrArg serElapsed same
    simp at counted
  by_cases gap : s.serSub = .gap
  · rw [serCycle_of_gap gap, gapCycle]
    split
    · exact ticks
    · exact respond_ne_of_respLog ackWord rfl
  cases bit : s.serBits[s.serPos]? with
  | none =>
    rw [serCycle_of_sent gap bit]
    exact fun same => gap (congrArg State.serSub same).symm
  | some v =>
    cases sub : s.serSub with
    | high =>
      rw [serCycle_of_high sub bit, highCycle]
      split
      · exact ticks
      · exact fun same => nomatch sub.symm.trans (congrArg State.serSub same).symm
    | low =>
      rw [serCycle_of_low sub bit, lowCycle_eq]
      split
      · exact ticks
      · exact fun same => Nat.succ_ne_self s.serPos ((beginBit_serPos _ s).symm.trans (congrArg State.serPos same))
    | gap => exact absurd sub gap

/-! ### The two waits (R145, R190, R228) -/

/-- Acquire waits just when it needs a sample and none is delivered (R146). -/
theorem acquireStep_eq_self_iff {s : State} {j : Nat} (phase : s.seqPhase = .spmAcquire j) :
    acquireStep j s = .next s ↔ j < s.cfg.l ∧ s.sampleQ = [] := by
  by_cases lt : j < s.cfg.l
  · cases queue : s.sampleQ with
    | nil => simp [acquireStep, lt, queue]
    | cons v rest =>
      rw [acquireStep, if_pos lt, queue]
      exact iff_of_false (next_ne_of_phase (by simp [phase])) (by simp)
  · rw [acquireStep, if_neg lt]
    exact iff_of_false (next_ne_of_phase (by simp [phase])) (fun needed => lt needed.1)

/-- A message taken is gone from the queue. -/
theorem takeMessage_ne_self {m : U32} {q : List (U32 × WorkerMsg)} {x : WorkerMsg} : takeMessage m q ≠ some (x, q) := by
  intro taken
  obtain ⟨pre, post, queue, rest, -⟩ := takeMessage_eq_some_iff.mp taken
  have lengths := congrArg List.length (queue.symm.trans rest)
  simp at lengths

/-- EXT_RUN waits just when the worker that holds the free port has presented nothing (R190). -/
theorem extRunStep_eq_self_iff {s : State} {m : U32} (grant : s.grant = .ext m) (free : s.busy = false) :
    extRunStep s = .next s ↔ takeMessage m s.workerQ = none := by
  cases oldest : takeMessage m s.workerQ with
  | none => simp [extRunStep, grant, extRunWith, portAccepts, free, oldest]
  | some taken =>
    obtain ⟨x, q⟩ := taken
    refine iff_of_false (fun waits => ?_) nofun
    have queue : s.workerQ = q := by
      cases x with
      | cmd w =>
        rw [extRunStep_eq_takeCommand grant free oldest] at waits
        obtain ⟨-, run⟩ := takeCommand_eq_next waits
        exact congrArg State.workerQ (exec_decodeCmd_frame run)
      | done =>
        rw [extRunStep_eq_quantumEnd grant free oldest] at waits
        exact congrArg State.workerQ (Host.Outcome.next.inj waits).symm
    exact takeMessage_ne_self (queue ▸ oldest)

/-- Away from a boundary SEQ's step changes nothing in two phases only: an acquisition with no sample delivered, and a quantum whose
worker has presented nothing (R228). -/
theorem Inv.seqStep_eq_self_iff {s : State} (h : Inv s) (notBoundary : s.seqPhase ≠ .boundary) :
    seqStep s = .next s ↔ (∃ j, s.seqPhase = .spmAcquire j ∧ j < s.cfg.l ∧ s.sampleQ = []) ∨
      (s.seqPhase = .extRun ∧ takeMessage s.curMode s.workerQ = none) := by
  constructor
  case mpr =>
    rintro (⟨j, phase, waits⟩ | ⟨phase, waits⟩)
    · obtain ⟨-, on, -⟩ := h.phaseOk_of_eq phase nofun
      rw [seqStep_of_acquire phase on (h.specOk.symm.trans on)]
      exact (acquireStep_eq_self_iff phase).mpr waits
    · rw [seqStep_of_extRun phase]
      exact (extRunStep_eq_self_iff (h.grant_of_extRun phase) (h.busy_eq_false (by simp [phase]))).mpr waits
  case mp =>
    have pass {k : State → Result} {p : Prop} (moves : k s ≠ .next s) : withSpectral s k = .next s → p :=
      fun waits => absurd (withSpectral_self notBoundary waits) moves
    unfold seqStep
    cases phase : s.seqPhase with
    | boundary => exact absurd phase notBoundary
    | spmAcquire j =>
      intro waits
      exact .inl ⟨j, rfl, (acquireStep_eq_self_iff phase).mp (withSpectral_self notBoundary waits)⟩
    | spmWindow => exact pass (withElems_ne_next fun _ => next_ne_of_phase (by simp [phase]))
    | spmDft => exact pass (withElems_ne_next fun _ => next_ne_of_phase (by simp [phase]))
    | spmMag => exact pass (withElems_ne_next fun _ => withElems_ne_next fun _ => next_ne_of_phase (by simp [phase]))
    | spmReduce => exact pass (withElems_ne_next fun _ => next_ne_of_phase (by simp [phase]))
    | spmNorm => exact pass (withElems_ne_next fun _ => next_ne_of_phase (by simp [phase]))
    | spmEmit b =>
      obtain ⟨grant, -⟩ := h.phaseOk_of_eq phase nofun
      exact pass (emitStep_ne_self phase grant (h.busy_eq_false (by simp [phase])))
    | extRun =>
      intro waits
      exact .inr ⟨rfl, (extRunStep_eq_self_iff (h.grant_of_extRun phase) (h.busy_eq_false (by simp [phase]))).mp waits⟩
    | ser k => exact fun waits => absurd (Host.Outcome.next.inj waits) (serCycle_ne_self s)

/-- Settles O12: on SEQ's turn the step is SEQ's, and `Inv.seqStep_eq_self_iff` says where that waits. -/
theorem waitsExactlyForSampleOrWorker : Obligations.WaitsExactlyForSampleOrWorker := by
  intro s s' h turn notBoundary
  rw [step_of_conforming h.conforming, nextEvent_of_seqTurn turn, seqTurn_eq turn]
  exact (h.withScript s'.script).seqStep_eq_self_iff notBoundary

end Sys2Proof.Machine
end

section
/-! PROOFS. The configuration check (70_reset_and_hazards.md R240), as the arithmetic it decides, and its outcome ConfigRefused
(60_exceptions.md R210): no step of a conforming configuration has it, whatever the state. -/

namespace Sys2Proof

/-! ### The two groups of constraints (R240) -/

theorem isTransformLength_iff {l : Nat} : isTransformLength l = true ↔ ∃ m, 1 ≤ m ∧ m ≤ 16 ∧ l = 2 ^ m := by
  simp only [isTransformLength, List.any_eq_true, List.mem_range, beq_iff_eq]
  constructor
  · rintro ⟨k, lt, rfl⟩
    exact ⟨k + 1, by omega, by omega, rfl⟩
  · rintro ⟨m, pos, le, rfl⟩
    exact ⟨m - 1, by omega, by rw [Nat.sub_add_cancel pos]⟩

theorem Config.edgesOk_iff {c : Config} : c.edgesOk = true ↔
    c.edges.length = c.n + 1 ∧ 0 ≤ c.edges.getD 0 0 ∧
    (∀ b, b < c.n → c.edges.getD b 0 ≤ c.edges.getD (b + 1) 0) ∧
    c.edges.getD c.n 0 ≤ ((c.l / 2 : Nat) : Int) := by
  simp only [Config.edgesOk, Bool.and_eq_true, beq_iff_eq, decide_eq_true_eq, List.all_eq_true, List.mem_range, and_assoc]

theorem SpecMask.isBits_iff {m : SpecMask} : m.isBits = true ↔
    (m.mr = 0 ∨ m.mr = 1) ∧ (m.mg = 0 ∨ m.mg = 1) ∧ (m.mb = 0 ∨ m.mb = 1) := by
  simp only [SpecMask.isBits, Bool.and_eq_true, decide_eq_true_eq, Nat.le_one_iff_eq_zero_or_eq_one, and_assoc]

theorem WireOrder.isPermutation_iff {o : WireOrder} :
    o.isPermutation = true ↔ o.first ≠ o.second ∧ o.first ≠ o.third ∧ o.second ≠ o.third := by
  simp only [WireOrder.isPermutation, Bool.and_eq_true, bne_iff_ne, and_assoc]

/-- The general constraints, in the order R240 lists them. -/
theorem Config.conforming_iff {c : Config} : c.conforming = true ↔
    1 ≤ c.n ∧ c.n ≤ 2 ^ 31 - 1 ∧ 4 ≤ c.numModes ∧ c.numModes ≤ 2 ^ 32 - 1 ∧
      (c.wireOrder.first ≠ c.wireOrder.second ∧ c.wireOrder.first ≠ c.wireOrder.third ∧
        c.wireOrder.second ≠ c.wireOrder.third) ∧
      1 ≤ c.t0h ∧ 1 ≤ c.t0l ∧ 1 ≤ c.t1h ∧ 1 ≤ c.t1l ∧ 1 ≤ c.tReset ∧ 0 < c.fClk ∧
      0 < c.tSample ∧ c.t0h + c.t0l = c.t1h + c.t1l ∧ c.t0h < c.t1h := by
  rw [← WireOrder.isPermutation_iff]
  simp only [Config.conforming, Config.sizesOk, Config.timingOk, Bool.and_eq_true, decide_eq_true_eq, and_assoc,
    Nat.reducePow, Nat.reduceSub]

/-- Settles O55: the check is a conjunction, part by part. -/
theorem specOkIsTheSpectralCheck : Obligations.SpecOkIsTheSpectralCheck := by
  intro cfg
  rw [← isTransformLength_iff, ← SpecMask.isBits_iff]
  simp only [Config.spectralOk, Config.edgesOk_iff, Bool.and_eq_true, beq_iff_eq, decide_eq_true_eq, and_assoc,
    Nat.reducePow]

end Sys2Proof

namespace Sys2Proof.Machine

/-! ### What SEQ refuses (R210) -/

/-- The answer is a next state or a fault. -/
def NeverRefuses (o : Result) : Prop := ∀ r, o ≠ .refused r

theorem neverRefuses_of_next {o : Result} (next : ∃ t, o = .next t) : NeverRefuses o := by
  obtain ⟨t, rfl⟩ := next
  exact nofun

theorem NeverRefuses.withSpectral {s : State} {k : State → Result} (h : NeverRefuses (k s)) :
    NeverRefuses (withSpectral s k) := by
  unfold Machine.withSpectral
  split
  · split
    · exact h
    · exact nofun
  · exact nofun

theorem NeverRefuses.withElems {α : Type} {a : SpmArray} {n : Nat} {xs : List (Option α)} {k : List α → Result}
    (h : ∀ ys, NeverRefuses (k ys)) : NeverRefuses (withElems a n xs k) := by
  unfold Machine.withElems
  split
  · exact h _
  · exact nofun

theorem NeverRefuses.withElem {α : Type} {a : SpmArray} {i : Nat} {xs : List (Option α)} {k : α → Result}
    (h : ∀ x, NeverRefuses (k x)) : NeverRefuses (withElem a i xs k) := by
  unfold Machine.withElem
  split
  · exact h _
  · exact nofun

/-- The model's check accepts both words SPM issues (R166). -/
theorem emitStep_neverRefuses (b : Nat) (s : State) : NeverRefuses (emitStep b s) := by
  unfold emitStep
  split
  · split
    · refine .withElem fun v => ?_
      rw [takeCommand_setcolorWord]
      exact nofun
    · split
      · rw [takeCommand_updateWord]
        exact neverRefuses_of_next (sendFrame_next s)
      · exact nofun
  · exact nofun

/-- Only a worker's word is ever refused (R213): in every other phase SEQ's step goes on or is a fault. -/
theorem seqStep_neverRefuses {s : State} (notExt : s.seqPhase ≠ .extRun) : NeverRefuses (seqStep s) := by
  unfold seqStep
  cases phase : s.seqPhase with
  | boundary =>
    change NeverRefuses (boundaryStep s)
    rcases boundaryStep_cases s with ⟨-, e⟩ | ⟨-, -, e⟩ | ⟨-, -, -, e⟩ | ⟨-, -, -, e⟩ <;> rw [e] <;> exact nofun
  | spmAcquire j => exact .withSpectral (neverRefuses_of_next (acquireStep_next j s))
  | spmWindow => exact .withSpectral (.withElems fun _ => nofun)
  | spmDft => exact .withSpectral (.withElems fun _ => nofun)
  | spmMag => exact .withSpectral (.withElems fun _ => .withElems fun _ => nofun)
  | spmReduce => exact .withSpectral (.withElems fun _ => nofun)
  | spmNorm => exact .withSpectral (.withElems fun _ => nofun)
  | spmEmit b => exact .withSpectral (emitStep_neverRefuses b s)
  | extRun => exact absurd phase notExt
  | ser k => exact nofun

/-- What SEQ refuses is a command word. -/
theorem seqStep_eq_refused {s : State} {r : Refusal} (refused : seqStep s = .refused r) : ∃ w, r = .refusedCommand w := by
  by_cases phase : s.seqPhase = .extRun
  · rw [seqStep_of_extRun phase] at refused
    rcases extRunStep_next_or_refused s with ⟨t, next⟩ | ⟨-, m, w, q, -, -, -, stop⟩
    · exact nomatch next.symm.trans refused
    · exact ⟨w, Host.Outcome.refused.inj (refused.symm.trans stop)⟩
  · exact absurd refused (seqStep_neverRefuses phase r)

/-! ### ConfigRefused (R240) -/

theorem step_ne_configRefused {s : State} (conf : s.cfg.conforming = true) (cfg : Config) :
    step s ≠ .refused (.configRefused cfg) := by
  rcases step_next_or_seqTurn conf with ⟨t, next⟩ | ⟨s', -, turn⟩
  · rw [next]
    exact nofun
  · rw [turn]
    intro refused
    obtain ⟨w, other⟩ := seqStep_eq_refused refused
    cases other

/-- Settles O56: the check comes before every event, and no event of a conforming configuration has this outcome. -/
theorem brokenConfigurationIsRefused : Obligations.BrokenConfigurationIsRefused := by
  intro s
  rw [← Config.conforming_iff]
  exact ⟨fun refused conf => step_ne_configRefused conf s.cfg refused, fun broken => if_neg broken⟩

end Sys2Proof.Machine
end

section
/-! PROOFS. Weak fairness (70_reset_and_hazards.md R254): what SEQ alone can end, and does not wait in, is ended by a step of SEQ. A
boundary and a worker's message are two such conditions (43_mode_scheduler.md R187, R190, R191; 41_led_driver.md R100). -/

namespace Sys2Proof.Machine

/-! ### Fair endless runs (R63, R254) -/

/-- A condition that only a step of SEQ ends, and in which SEQ never waits, holds at some later step of SEQ. -/
theorem weaklyFair_seq_of_stays {e : Nat → Event} {σ : Nat → State} {P : State → Prop} {n : Nat} (fair : weaklyFair e σ)
    (start : P (σ n)) (stays : ∀ m, P (σ m) → e m ≠ .seq → P (σ (m + 1))) (enabled : ∀ m, P (σ m) → ¬seqWaits (σ m)) :
    ∃ m, n ≤ m ∧ e m = .seq ∧ P (σ m) := by
  by_contra never
  have notSeq : ∀ m, n ≤ m → P (σ m) → e m ≠ .seq := fun m le holds seq => never ⟨m, le, seq, holds⟩
  have always : ∀ m, n ≤ m → P (σ m) := by
    intro m le
    induction m, le using Nat.le_induction with
    | base => exact start
    | succ m le ih => exact stays m ih (notSeq m le ih)
  obtain ⟨m, le, seq | waits⟩ := fair n
  · exact notSeq m le (always m le) seq
  · exact enabled m (always m le) waits

theorem EndlessRun.eventStep {e : Nat → Event} {σ : Nat → State} (run : EndlessRun e σ) (n : Nat) :
    eventStep (e n) { σ n with script := [] } = .next (σ (n + 1)) := by
  have conf : (σ n).cfg.conforming = true := conforming_of_step (s := (σ n).withEvent (e n)) (run n)
  exact (step_withEvent conf (e n)).symm.trans (run n)

/-- A step at which SEQ's event stands is SEQ's. -/
theorem EndlessRun.seqStep {e : Nat → Event} {σ : Nat → State} (run : EndlessRun e σ) {n : Nat} (seq : e n = .seq) :
    seqStep { σ n with script := [] } = .next (σ (n + 1)) := by
  have event := run.eventStep n
  rwa [seq] at event

theorem EndlessRun.inv {e : Nat → Event} {σ : Nat → State} (run : EndlessRun e σ) (h : Inv (σ 0)) (n : Nat) : Inv (σ n) := by
  induction n with
  | zero => exact h
  | succ n ih => exact stepKeepsInv _ _ (ih.withScript [e n]) (run n)

/-! ### The events that are not SEQ's (R63, R182, R146, R191) -/

/-- ARB and the environment leave SEQ's phase and CUR_MODE alone, and the workers' queue only grows. -/
theorem eventStep_keeps_work {e : Event} {s t : State} (run : eventStep e s = .next t) (notSeq : e ≠ .seq)
    (noReset : ∀ level, e ≠ .reset level) :
    t.seqPhase = s.seqPhase ∧ t.curMode = s.curMode ∧ ∃ added, t.workerQ = s.workerQ ++ added := by
  cases e with
  | pin level =>
    rw [eventStep, arbStep_eq] at run
    cases run
    split <;> exact ⟨rfl, rfl, [], (List.append_nil _).symm⟩
  | seq => exact absurd rfl notSeq
  | sample v =>
    cases run
    exact ⟨by simp, by simp, [], by simp⟩
  | present m msg =>
    cases run
    exact ⟨rfl, rfl, [(m, msg)], rfl⟩
  | reset level => exact absurd rfl (noReset level)

/-- Only SEQ leaves a boundary: the reset input too ends in one (R51). -/
theorem eventStep_keeps_boundary {e : Event} {s t : State} (run : eventStep e s = .next t) (notSeq : e ≠ .seq)
    (phase : s.seqPhase = .boundary) : t.seqPhase = .boundary := by
  by_cases reset : ∃ level, e = .reset level
  · obtain ⟨level, rfl⟩ := reset
    cases run
    rfl
  · obtain ⟨kept, -⟩ := eventStep_keeps_work run notSeq fun level same => reset ⟨level, same⟩
    exact kept.trans phase

/-! ### The boundary (R187) -/

theorem boundaryStep_curMode {s t : State} (run : boundaryStep s = .next t) : t.curMode = s.mode := by
  rcases boundaryStep_cases s with ⟨-, e⟩ | ⟨-, -, e⟩ | ⟨-, -, -, e⟩ | ⟨-, -, -, e⟩ <;> rw [e] at run <;> cases run <;> rfl

/-- SEQ never waits at a boundary, so a fair run leaves it by a step that latches MODE. -/
theorem EndlessRun.leaves_boundary {e : Nat → Event} {σ : Nat → State} (run : EndlessRun e σ) (fair : weaklyFair e σ)
    {n : Nat} (phase : (σ n).seqPhase = .boundary) :
    ∃ m, n ≤ m ∧ e m = .seq ∧ (σ m).seqPhase = .boundary ∧ (σ (m + 1)).curMode = (σ m).mode := by
  obtain ⟨m, le, seq, atBoundary⟩ := weaklyFair_seq_of_stays (P := fun s => s.seqPhase = .boundary) fair phase
    (fun m holds notSeq => eventStep_keeps_boundary (run.eventStep m) notSeq holds) fun m holds ⟨notBoundary, _⟩ => notBoundary holds
  have dispatched := (seqStep_of_boundary (s := { σ m with script := [] }) atBoundary).symm.trans (run.seqStep seq)
  exact ⟨m, le, seq, atBoundary, boundaryStep_curMode (s := { σ m with script := [] }) dispatched⟩

/-! ### A message of the running worker (R100, R190, R191) -/

/-- In an external quantum of mode `m`, the oldest message its worker has waiting is `x`. -/
def MessageWaits (m : U32) (x : WorkerMsg) (s : State) : Prop :=
  s.seqPhase = .extRun ∧ s.curMode = m ∧ ∃ q, takeMessage m s.workerQ = some (x, q)

/-- Messages presented later do not change which is the oldest. -/
theorem takeMessage_append {m : U32} {q r : List (U32 × WorkerMsg)} {x : WorkerMsg} (oldest : takeMessage m q = some (x, r))
    (added : List (U32 × WorkerMsg)) : takeMessage m (q ++ added) = some (x, r ++ added) := by
  obtain ⟨pre, post, rfl, rfl, older⟩ := takeMessage_eq_some_iff.mp oldest
  exact takeMessage_eq_some_iff.mpr ⟨pre, post ++ added, by simp, by simp, older⟩

theorem MessageWaits.eventStep {m : U32} {x : WorkerMsg} {e : Event} {s t : State} (h : MessageWaits m x s)
    (run : eventStep e s = .next t) (notSeq : e ≠ .seq) (noReset : ∀ level, e ≠ .reset level) : MessageWaits m x t := by
  obtain ⟨phase, mode, q, oldest⟩ := h
  obtain ⟨samePhase, sameMode, added, queue⟩ := eventStep_keeps_work run notSeq noReset
  exact ⟨samePhase.trans phase, sameMode.trans mode, q ++ added, queue ▸ takeMessage_append oldest added⟩

/-- SEQ does not wait while the worker of the running quantum has a message waiting (R228). -/
theorem MessageWaits.not_seqWaits {m : U32} {x : WorkerMsg} {s : State} (h : MessageWaits m x s) (inv : Inv s) :
    ¬seqWaits s := by
  obtain ⟨phase, rfl, q, oldest⟩ := h
  rintro ⟨notBoundary, waits⟩
  rcases (inv.seqStep_eq_self_iff notBoundary).mp waits with ⟨j, acquire, -⟩ | ⟨-, nothing⟩
  · exact nomatch phase.symm.trans acquire
  · exact nomatch oldest.symm.trans nothing

/-- A step of SEQ that goes on in EXT_RUN with the port free takes the holder's oldest message out of the queue. -/
theorem extRunStep_workerQ {s t : State} {m : U32} {x : WorkerMsg} {q : List (U32 × WorkerMsg)} (grant : s.grant = .ext m)
    (free : s.busy = false) (oldest : takeMessage m s.workerQ = some (x, q)) (run : extRunStep s = .next t) :
    t.workerQ = q := by
  cases x with
  | cmd w =>
    rw [extRunStep_eq_takeCommand grant free oldest] at run
    obtain ⟨-, executed⟩ := takeCommand_eq_next run
    exact congrArg State.workerQ (exec_decodeCmd_frame executed)
  | done =>
    rw [extRunStep_eq_quantumEnd grant free oldest] at run
    cases run
    rfl

/-- A fair run without a reset input takes the oldest message the running worker has waiting. -/
theorem EndlessRun.takes_message {e : Nat → Event} {σ : Nat → State} (run : EndlessRun e σ) (fair : weaklyFair e σ)
    (h : Inv (σ 0)) (noReset : ∀ n level, e n ≠ .reset level) {n : Nat} {w : U32} {x : WorkerMsg}
    (waiting : MessageWaits w x (σ n)) :
    ∃ m q, n ≤ m ∧ e m = .seq ∧ takeMessage w (σ m).workerQ = some (x, q) ∧ (σ (m + 1)).workerQ = q := by
  obtain ⟨m, le, seq, phase, rfl, q, oldest⟩ := weaklyFair_seq_of_stays (P := MessageWaits w x) fair waiting
    (fun m holds notSeq => MessageWaits.eventStep (s := { σ m with script := [] }) holds (run.eventStep m) notSeq (noReset m))
    fun m holds => holds.not_seqWaits (run.inv h m)
  have inv := (run.inv h m).withScript []
  have taken := (seqStep_of_extRun (s := { σ m with script := [] }) phase).symm.trans (run.seqStep seq)
  exact ⟨m, q, le, seq, oldest, extRunStep_workerQ (s := { σ m with script := [] })
    (inv.grant_of_extRun phase) (inv.busy_eq_false (by simp [phase])) oldest taken⟩

/-- Settles O52: a boundary and a waiting message are both conditions that SEQ alone ends and in which it does not wait. -/
theorem fairRunMakesProgress : Obligations.FairRunMakesProgress := by
  intro e σ run fair h
  exact ⟨fun n phase => run.leaves_boundary fair phase,
    fun noReset n x q phase oldest => run.takes_message fair h noReset ⟨phase, rfl, q, oldest⟩⟩

end Sys2Proof.Machine
end
